-- ==== Sys2Proof/Word.lean ====
section
/-! DEFINITION. The words of the byte-serial interface: bytes, sector indices and 512-byte sectors
(spec 00_scope R10, R12; 10_state R30). -/

namespace Sys2Proof

/-- One byte of the host's byte stream (R9: the interface is whole bytes). -/
abbrev Byte := BitVec 8

/-- A sector index: the 32-bit command argument, used as is (20_memory R41). -/
abbrev SectorIndex := BitVec 32

/-- A logical sector: 512 bytes, element 0 first in time (`SECTOR_BYTES`, 00_scope R10, R12). -/
abbrev Sector := Vector Byte 512

end Sys2Proof
end

