-- ==== Sys2Proof/Config.lean ====
section
/-! DEFINITION. What an implementation fixes and what the spec leaves free (00_scope R11; 92_eei_decisions;
93_implementation_defined part 1). Every `opaque` constant is a free value: it has no body, nothing in Lean can
evaluate it, and a statement about it holds for every value. -/

namespace Sys2Proof

/-- The nine supported commands (00_scope R3), the domain of the parameter `CMD_INDEX` (30_encoding R75). The
indices themselves are `Sys2Proof.cmdIndex` in Decode.lean. -/
inductive Command where
  | goIdleState
  | sendIfCond
  | sendCsd
  | sendCid
  | readSingleBlock
  | writeBlock
  | appSendOpCond
  | appCmd
  | readOcr
  deriving DecidableEq, Repr

namespace Config

/-- `IDLE_AT_CREATION` (R34, R300, D2): the idle flag of a new Card, a draw. Log entry 1. -/
opaque idleAtCreation : Bool

/-- `EJECT_PERSISTS` (R235, D21): whether an eject persists the cache first; OPEN. Log entry 3. -/
opaque ejectPersists : Bool

/-- Whether the store call with this draw number, a read, fails (R242, D8, I8, I17). Log entry 5. -/
opaque storeReadFails : Nat → Bool

/-- Whether the store call with this draw number, a write, fails (R243, D8, I8). Log entry 5. -/
opaque storeWriteFails : Nat → Bool

/-- What a failed write with this draw number leaves at this offset of its sector (R243, D22, I9). Log entry 5. -/
opaque failedWriteByte : Nat → Nat → Byte

/-- Bytes 256 to 511 of what a store of 256-byte sectors answers to the read with this draw number
(R242, R243: unspecified, and never read). Log entry 5. -/
opaque upperHalfByte : Nat → Nat → Byte

/-- The draw that places one entry among the others in the order of a commit's writes (R208, D22, I10).
Log entry 5. -/
opaque commitPosition : Nat → Nat

end Config

end Sys2Proof
end

