-- ==== Sys2Proof/Syntax.lean ====
section
/-! DEFINITION. The instructions: one constructor per row of spec/opcode_table.json (30_encoding R70, R72, R75). -/

namespace Sys2Proof

/-- An instruction of the byte stream. A command frame carries its 32-bit argument and its CRC byte; the CRC is
never checked (R70), and is kept so that no bit of a frame is lost. The data token is one fixed byte (R72). -/
inductive Instr where
  /-- GO_IDLE_STATE, index 0 (41_commands R153). -/
  | goIdleState (arg : BitVec 32) (crc : Byte)
  /-- SEND_IF_COND, index 8 (R154). -/
  | sendIfCond (arg : BitVec 32) (crc : Byte)
  /-- SEND_CSD, index 9 (R155). -/
  | sendCsd (arg : BitVec 32) (crc : Byte)
  /-- SEND_CID, index 10 (R156). -/
  | sendCid (arg : BitVec 32) (crc : Byte)
  /-- READ_SINGLE_BLOCK, index 17 (R157). -/
  | readSingleBlock (arg : BitVec 32) (crc : Byte)
  /-- WRITE_BLOCK, index 24 (R158). -/
  | writeBlock (arg : BitVec 32) (crc : Byte)
  /-- APP_SEND_OP_COND, index 41 (R159). -/
  | appSendOpCond (arg : BitVec 32) (crc : Byte)
  /-- APP_CMD, index 55 (R160). -/
  | appCmd (arg : BitVec 32) (crc : Byte)
  /-- READ_OCR, index 58 (R161). -/
  | readOcr (arg : BitVec 32) (crc : Byte)
  /-- DATA_TOKEN, the byte 0xFE in AwaitingDataToken (40_frame_decoder R127). -/
  | dataToken
  deriving DecidableEq, Repr

end Sys2Proof
end

