-- ==== Sys2Proof/WellFormed.lean ====
section
/-! DEFINITION. Well-formedness of an instruction: it stands where the decoder can take it. No operand value is
illegal (30_encoding R81: every argument and every CRC byte is accepted), so the one check is the place: a command
frame starts in AwaitingCommand only, the data token stands in AwaitingDataToken only (R76, R72; 70_reset R311). -/

namespace Sys2Proof

/-- The two places of the byte stream in which a byte is read as the start of an instruction (R76, R127). -/
inductive Slot where
  /-- The decoder is in AwaitingCommand. -/
  | command
  /-- The decoder is in AwaitingDataToken. -/
  | dataToken
  deriving DecidableEq, Repr

/-- The one slot each instruction may stand in. -/
def Instr.slot : Instr → Slot
  | .goIdleState _ _ => .command
  | .sendIfCond _ _ => .command
  | .sendCsd _ _ => .command
  | .sendCid _ _ => .command
  | .readSingleBlock _ _ => .command
  | .writeBlock _ _ => .command
  | .appSendOpCond _ _ => .command
  | .appCmd _ _ => .command
  | .readOcr _ _ => .command
  | .dataToken => .dataToken

/-- An instruction is well formed in a slot when that is its slot. -/
def Instr.wellFormed (sl : Slot) (i : Instr) : Bool := i.slot == sl

end Sys2Proof
end

