-- ==== Sys2Proof/Decode.lean ====
section
/-! DEFINITION. Decoding of the byte stream's instructions, the encoder, and the bit fields they use
(30_encoding R70 to R76; 10_state R24). -/

namespace Sys2Proof

/-! ### Bit fields -/

/-- Argument byte `k` of a 32-bit argument: byte 0 is bits 31 to 24 (10_state R24, 20_memory R40). -/
def argByte (arg : BitVec 32) (k : Nat) : Byte := arg.extractLsb' (24 - 8 * k) 8

/-- The 32-bit argument of four argument bytes, the first one most significant (R24). -/
def argOf (a0 a1 a2 a3 : Byte) : BitVec 32 := a0 ++ a1 ++ a2 ++ a3

/-- The framing check of a command byte: start bit 0, transmit bit 1 (R71). -/
def validFrameByte (b : Byte) : Bool := b &&& 0xC0 == 0x40

/-- The command index of a command byte, bits 5 to 0 (R71). -/
def indexOf (b : Byte) : BitVec 6 := b.extractLsb' 0 6

/-- The command byte of an index: framing bits 0b01 above it (R70, R71). -/
def commandByte (idx : BitVec 6) : Byte := (0b01 : BitVec 2) ++ idx

/-- The data token, `DATA_TOKEN` (00_scope R10, 30_encoding R72). -/
def dataTokenByte : Byte := 0xFE

/-! ### The command map -/

/-- The parameter `CMD_INDEX` (30_encoding R75, D11): only index 0 is the source's own. -/
def cmdIndex : Command → BitVec 6
  | .goIdleState => 0
  | .sendIfCond => 8
  | .sendCsd => 9
  | .sendCid => 10
  | .readSingleBlock => 17
  | .writeBlock => 24
  | .appSendOpCond => 41
  | .appCmd => 55
  | .readOcr => 58

/-- The nine commands (00_scope R3). -/
def allCommands : List Command :=
  [.goIdleState, .sendIfCond, .sendCsd, .sendCid, .readSingleBlock, .writeBlock, .appSendOpCond, .appCmd, .readOcr]

/-- The command of an index, none where the index is not one of the nine (R75, R76). -/
def commandOf (idx : BitVec 6) : Option Command := allCommands.find? (fun c => cmdIndex c == idx)

/-- The frame of a command as an instruction. -/
def Command.instr (c : Command) (arg : BitVec 32) (crc : Byte) : Instr :=
  match c with
  | .goIdleState => .goIdleState arg crc
  | .sendIfCond => .sendIfCond arg crc
  | .sendCsd => .sendCsd arg crc
  | .sendCid => .sendCid arg crc
  | .readSingleBlock => .readSingleBlock arg crc
  | .writeBlock => .writeBlock arg crc
  | .appSendOpCond => .appSendOpCond arg crc
  | .appCmd => .appCmd arg crc
  | .readOcr => .readOcr arg crc

/-! ### The decoder -/

/-- Why bytes are no instruction in their slot. -/
inductive DecodeError where
  /-- There is no byte. -/
  | noBytes
  /-- The framing bits are not 0b01: discarded silently by the Card (R76, 90_conflicts C1). -/
  | badFraming
  /-- The index is not one of the nine: a ProtocolError on the Card (R76). -/
  | unsupportedIndex (idx : BitVec 6)
  /-- The frame stops before its CRC byte (R70). -/
  | truncated
  /-- The byte is not 0xFE: ignored by the Card in the token wait (R72, R81). -/
  | notDataToken
  deriving DecidableEq, Repr

/-- The frame that starts in AwaitingCommand: the command byte is checked first (framing, then index, 60_exceptions
R268), then four argument bytes and the CRC byte are taken as they are (R70). -/
def decodeFrame : List Byte → Except DecodeError (Instr × List Byte)
  | [] => .error .noBytes
  | b :: bs =>
    if validFrameByte b then
      match commandOf (indexOf b) with
      | none => .error (.unsupportedIndex (indexOf b))
      | some c =>
        match bs with
        | a0 :: a1 :: a2 :: a3 :: crc :: rest => .ok (c.instr (argOf a0 a1 a2 a3) crc, rest)
        | _ => .error .truncated
    else .error .badFraming

/-- The byte the token wait looks for (R72, R127). -/
def decodeToken : List Byte → Except DecodeError (Instr × List Byte)
  | [] => .error .noBytes
  | b :: bs => if b = dataTokenByte then .ok (.dataToken, bs) else .error .notDataToken

/-- The decoder, total on any bytes: what instruction they start with in a slot, and the bytes after it. In no other
place is a byte decoded as an instruction (R76, last sentence). -/
def decode (sl : Slot) (bs : List Byte) : Except DecodeError (Instr × List Byte) :=
  match sl with
  | .command => decodeFrame bs
  | .dataToken => decodeToken bs

/-! ### The encoder -/

/-- The six bytes of a command frame in the order they are sent (R70). -/
def encodeFrame (c : Command) (arg : BitVec 32) (crc : Byte) : List Byte :=
  [commandByte (cmdIndex c), argByte arg 0, argByte arg 1, argByte arg 2, argByte arg 3, crc]

/-- The bytes of an instruction (R70, R72). -/
def encode : Instr → List Byte
  | .goIdleState arg crc => encodeFrame .goIdleState arg crc
  | .sendIfCond arg crc => encodeFrame .sendIfCond arg crc
  | .sendCsd arg crc => encodeFrame .sendCsd arg crc
  | .sendCid arg crc => encodeFrame .sendCid arg crc
  | .readSingleBlock arg crc => encodeFrame .readSingleBlock arg crc
  | .writeBlock arg crc => encodeFrame .writeBlock arg crc
  | .appSendOpCond arg crc => encodeFrame .appSendOpCond arg crc
  | .appCmd arg crc => encodeFrame .appCmd arg crc
  | .readOcr arg crc => encodeFrame .readOcr arg crc
  | .dataToken => [dataTokenByte]

/-! ### Words of the opcode table -/

/-- The low `n` bytes of a number, most significant first: R70 numbers a frame as one 48-bit value with byte 0, the
first one sent, in bits 47 to 40. -/
def bigEndianBytes : Nat → Nat → List Byte
  | 0, _ => []
  | n + 1, w => BitVec.ofNat 8 (w / 256 ^ n) :: bigEndianBytes n w

/-- The bytes of a table word in the order they are sent, zero bytes after them up to the longest instruction
(six bytes). Log entry 7. -/
def tableBytes (nbits w : Nat) : List Byte :=
  bigEndianBytes (nbits / 8) w ++ List.replicate (6 - nbits / 8) 0

/-- The instruction the decoder reads from a word of spec/opcode_table.json. A row is read in the slot it belongs
to; no byte starts an instruction in both (0xFE fails the framing check). -/
def decodeTableWord (nbits w : Nat) : Option Instr :=
  match decode .command (tableBytes nbits w) with
  | .ok (i, _) => some i
  | .error _ =>
    match decode .dataToken (tableBytes nbits w) with
    | .ok (i, _) => some i
    | .error _ => none

end Sys2Proof
end

