-- ==== Sys2Proof/Machine/State.lean ====
section
/-! DEFINITION. The state of the Card (10_state R20 to R34), the backing store behind it (R31, 44_host_interface
R240 to R245), the host's calls (R230), and the reasons a step can stop. -/

namespace Sys2Proof.Machine

/-! ### The backing store -/

/-- Sector data as (address, byte) pairs: the byte at offset `j` of sector `i` has the address `512 * i + j`. In
canonical form (`Memory.wf`) addresses rise strictly and no listed byte is the one an unlisted address reads as.
Log entry 6. -/
abbrev Memory := List Host.Cell

/-- What a store answers to a geometry query: four natural numbers of no fixed width (43_geometry R220, D26). -/
structure Geometry where
  cylinders : Nat
  heads : Nat
  sectorsPerTrack : Nat
  sectorSize : Nat
  deriving DecidableEq, Repr

/-- Which calls of a store fail. -/
inductive StoreKind where
  /-- Any call may fail: a draw (44_host_interface R242, R243, D8). -/
  | drawn
  /-- The reference store: a call succeeds exactly when the index is below the number of sectors (R245). -/
  | reference
  deriving DecidableEq, Repr

/-- A backing store: its geometry, which never changes (R241), its data (10_state R31) and its kind. -/
structure Store where
  geometry : Geometry
  data : Memory
  kind : StoreKind
  deriving DecidableEq, Repr

/-- What `StoreOpen` and `StoreGeometry` answer to an insert: a parameter of the launch (R240, R241, 43 R224). -/
inductive OpenResult where
  /-- `StoreOpen` fails. -/
  | openFailed
  /-- The store opens and its geometry query fails. -/
  | geometryFailed
  /-- The store opens and has this geometry, data and kind. -/
  | opened (st : Store)
  deriving DecidableEq, Repr

/-! ### The Card's parts -/

/-- The ten decoder states; an argument state carries its slot (10_state R22). -/
inductive DecoderState where
  | awaitingCommand
  | awaitingArg (k : Fin 4)
  | awaitingCrc
  | awaitingDataToken
  | awaitingData
  | awaitingDataCrc1
  | awaitingDataCrc2
  deriving DecidableEq, Repr

/-- The response: a 516-byte buffer, a read cursor and a logical end (R28). -/
structure Response where
  buf : Vector Byte 516
  cursor : Nat
  endPos : Nat
  deriving DecidableEq, Repr

/-- The detail of a MediaError (60_exceptions R260). -/
inductive MediaDetail where
  | openFailed
  | geometryFailed
  | unsupportedSectorSize (sectorSize : Nat)
  | notMultipleOf1024 (totalSectors : Nat)
  deriving DecidableEq, Repr

/-- Which store call an IoError is about (R260). -/
inductive IoDirection where
  | read
  | write
  deriving DecidableEq, Repr

/-- A record of the event log: kind and detail (R260). -/
inductive Event where
  /-- ProtocolError, UnsupportedCommand with the index (R261). -/
  | protocolError (index : BitVec 6)
  /-- MediaError (R262). -/
  | mediaError (detail : MediaDetail)
  /-- IoError with the sector index (R263). -/
  | ioError (direction : IoDirection) (index : SectorIndex)
  /-- LogicError, DataPhaseForNonWrite with the current command (R264). -/
  | logicError (current : BitVec 6)
  deriving DecidableEq, Repr

/-! ### The host's side -/

/-- One call of an entry point (44_host_interface R230), or the destruction of the Card (70_reset R301). -/
inductive HostCall where
  /-- `select()`, also called `reset()` (R231). -/
  | select
  /-- `write(byte)` (R232). -/
  | write (b : Byte)
  /-- `read()` (R233). -/
  | read
  /-- `insert(path)`, with what opening that path answers (R234, 43 R224). -/
  | insert (opening : OpenResult)
  /-- `eject()` (R235). -/
  | eject
  /-- `is_dirty()` (R236). -/
  | isDirty
  /-- `commit()` (R237). -/
  | commit
  /-- The Card is destroyed, after an implicit eject (70 R301). -/
  | destroy
  deriving DecidableEq, Repr

/-- What a call hands back to the host, for the calls that return a value (R230). -/
inductive HostResult where
  /-- The byte of a `read()`. -/
  | byte (b : Byte)
  /-- The answer of `is_dirty()`. -/
  | dirty (v : Bool)
  /-- `Ok` of an insert or a commit. -/
  | ok
  /-- `MediaError` of an insert. -/
  | mediaError
  /-- `IoError` of a commit. -/
  | ioError
  deriving DecidableEq, Repr

/-! ### The state -/

/-- The spec's named arguments of the model (00_scope R11) that a step reads. No step changes them. -/
structure Params where
  /-- `EJECT_PERSISTS` (D21). -/
  ejectPersists : Bool
  /-- `COMMIT_CLEARS` (D20). -/
  commitClears : Bool
  /-- `ACCEPTED_SECTOR_SIZES` (D18). -/
  acceptedSectorSizes : List Nat
  deriving DecidableEq, Repr

structure State where
  /-- The bound store with its geometry, absent when no image is inserted (R20, R21). -/
  boundStore : Option Store
  /-- C_SIZE, valid while a store is bound (R27). -/
  capacityField : BitVec 16
  /-- The idle/ready status bit (R26). -/
  idle : Bool
  /-- The decoder's sequencer (R22). -/
  decoderState : DecoderState
  /-- The index of the last accepted command byte (R23). -/
  currentCommand : BitVec 6
  /-- The four argument bytes, first received first (R24). -/
  argument : Vector Byte 4
  /-- The block being received (R25). -/
  sendBuffer : Vector Byte 512
  /-- How many bytes of it have been received (R25). -/
  dataCount : Nat
  /-- The response buffer, cursor and end (R28). -/
  response : Response
  /-- The Sector Cache, strictly rising by index (R30). -/
  cache : List (SectorIndex × Sector)
  /-- The event log, oldest first (R32, R260). -/
  events : List Event
  /-- The sticky fault mark (R32, R265). -/
  faultMark : Bool
  /-- The sticky refused mark (R32, R266). -/
  refusedMark : Bool
  /-- The named arguments of the model (R11). -/
  params : Params
  /-- The model's own: the counter the free values are applied to. Log entry 5. -/
  draws : Nat
  /-- The model's own: the host's pending calls, oldest first. Log entry 4. -/
  hostCalls : List HostCall
  /-- The model's own: what the calls returned, oldest first. Log entry 4. -/
  results : List HostResult
  /-- The model's own: the stores released so far, newest first (R244, R247). Log entry 6. -/
  released : List Store
  /-- The model's own: the Card has been destroyed (70 R301). Log entry 4. -/
  destroyed : Bool
  deriving DecidableEq, Repr

/-- Why the machine stops with a fault. Each is raised in states that no run from reset reaches; each is safe: the
model stops where the spec gives no behaviour. Log entry 8. -/
inductive Fault where
  /-- Raised by `runFrame`: the decoder is in AwaitingCrc and the latched command is not one of the nine. Safe. -/
  | undecodableFrame
  /-- Raised by `acceptDataByte`: the decoder is in AwaitingData with 512 bytes already received. Safe. -/
  | sendBufferOverrun
  /-- Raised by `readByte`: the cursor is below the end and past the buffer. Safe. -/
  | responseOverrun
  deriving DecidableEq, Repr

/-- Why a step is refused. -/
inductive Refusal where
  /-- An arm of `exec` that has no meaning yet; no arm is left so. Safe. -/
  | notModelled (mnemonic : String)
  /-- Raised by `step` once the refused mark is set by a store of zero sectors: a refused state has no further step
  (43 R221, 60 R266, D25). Safe. -/
  | zeroCapacity
  /-- Raised by `step` once the Card is destroyed: it has no further step (70 R301). Safe. -/
  | cardDestroyed
  deriving DecidableEq, Repr

/-- The three outcomes of a step on this machine. -/
abbrev Outcome := Host.Outcome State Fault Refusal

/-- The empty response of a new Card (R34). -/
def Response.empty : Response := { buf := Vector.replicate 516 0, cursor := 0, endPos := 0 }

/-- A newly created Card (R34, column "creation"; 70_reset R300). The fields the spec leaves unspecified there are
zero, by log entry 2. -/
def State.reset : State where
  boundStore := none
  capacityField := 0
  idle := Config.idleAtCreation
  decoderState := .awaitingCommand
  currentCommand := 0
  argument := Vector.replicate 4 0
  sendBuffer := Vector.replicate 512 0
  dataCount := 0
  response := Response.empty
  cache := []
  events := []
  faultMark := false
  refusedMark := false
  params := { ejectPersists := Config.ejectPersists, commitClears := false, acceptedSectorSizes := [512] }
  draws := 0
  hostCalls := []
  results := []
  released := []
  destroyed := false

end Sys2Proof.Machine
end

