-- ==== Sys2Proof/Machine/Ops.lean ====
section
/-! DEFINITION. The named operations over memory, the response and the Card's fields, and reporting an error, the
one thing the Card has in the place of taking an exception (60_exceptions R260, R269, R270). -/

namespace Sys2Proof.Machine

/-! ### Memory: the data of a backing store -/

/-- What an unlisted address reads as (44 R245: 0x00 unless the launch says otherwise). Log entry 6. -/
def unlistedByte : Byte := 0

/-- The number of byte addresses: 2^32 sectors of 512 bytes (20_memory R42). -/
def addressSpace : Nat := 4294967296 * 512

/-- The canonical form: addresses strictly rising, inside the address space, no entry equal to the unlisted byte. -/
def Memory.wf (m : Memory) : Bool :=
  decide (m.Pairwise (fun c d => c.1 < d.1)) && m.all (fun c => c.2 != unlistedByte && decide (c.1 < addressSpace))

/-- The byte at an address. -/
def Memory.readByte : Memory → Nat → Byte
  | [], _ => unlistedByte
  | (a, b) :: m, x => if a = x then b else Memory.readByte m x

/-- The canonical listing of consecutive bytes from an address on. -/
def Memory.block : Nat → List Byte → Memory
  | _, [] => []
  | base, b :: bs => if b = unlistedByte then Memory.block (base + 1) bs else (base, b) :: Memory.block (base + 1) bs

/-- Store consecutive bytes from an address on. -/
def Memory.writeBlock (m : Memory) (base : Nat) (bytes : List Byte) : Memory :=
  m.filter (fun c => c.1 < base) ++ (Memory.block base bytes ++ m.filter (fun c => base + bytes.length ≤ c.1))

/-- A call carries only canonical data: an insert's image is in canonical form. -/
def HostCall.wellFormed : HostCall → Bool
  | .insert (.opened st) => st.data.wf
  | _ => true

/-! ### The response -/

/-- `Respond` (10_state R28): the bytes stand at the start of the buffer, the bytes past them stay. -/
def Response.load (p : Response) (r : List Byte) : Response where
  buf := ⟨((r ++ p.buf.toList.drop r.length).take 516).toArray, by simp; omega⟩
  cursor := 0
  endPos := r.length

/-- The response emptied by a reset (44 R231, D3). -/
def Response.clear (p : Response) : Response := { p with cursor := 0, endPos := 0 }

/-- The bytes the host can still read, in order (R29). -/
def Response.unread (p : Response) : List Byte := (p.buf.toList.take p.endPos).drop p.cursor

/-! ### Updates of the Card's fields -/

/-- `card.decoder_state <- d`. -/
def State.setDecoder (s : State) (d : DecoderState) : State := { s with decoderState := d }

/-- `card.idle <- v`. -/
def State.setIdle (s : State) (v : Bool) : State := { s with idle := v }

/-- `card.current_command <- idx`. -/
def State.setCurrent (s : State) (idx : BitVec 6) : State := { s with currentCommand := idx }

/-- `card.argument[k] <- b`. -/
def State.setArgByte (s : State) (k : Fin 4) (b : Byte) : State := { s with argument := s.argument.set k b }

/-- What the frame's own bytes leave before dispatch: the command index and the four argument bytes (40 R120,
R121). -/
def State.latchFrame (s : State) (idx : BitVec 6) (arg : BitVec 32) : State :=
  { s with currentCommand := idx, argument := #v[argByte arg 0, argByte arg 1, argByte arg 2, argByte arg 3] }

/-- `card.data_count <- n`. -/
def State.setCount (s : State) (n : Nat) : State := { s with dataCount := n }

/-- `card.send_buffer <- buf`. -/
def State.setSend (s : State) (buf : Vector Byte 512) : State := { s with sendBuffer := buf }

/-- `Respond(r)` on the Card (R28). -/
def State.respond (s : State) (r : List Byte) : State := { s with response := s.response.load r }

/-- `card.response.cursor <- 0; card.response.end <- 0`. -/
def State.clearResponse (s : State) : State := { s with response := s.response.clear }

/-- `card.response.cursor <- n`. -/
def State.setCursor (s : State) (n : Nat) : State := { s with response := { s.response with cursor := n } }

/-- `card.cache <- c`. -/
def State.setCache (s : State) (c : List (SectorIndex × Sector)) : State := { s with cache := c }

/-- `card.bound_store <- o`. -/
def State.setStore (s : State) (o : Option Store) : State := { s with boundStore := o }

/-- `card.capacity_field <- v`. -/
def State.setCapacity (s : State) (v : BitVec 16) : State := { s with capacityField := v }

/-- `StoreRelease` (44 R244): the Card drops the store; its data stay observable (R247). -/
def State.release (s : State) (st : Store) : State := { s with released := st :: s.released }

/-- Advance the draw counter. -/
def State.setDraws (s : State) (n : Nat) : State := { s with draws := n }

/-- The rest of the host's calls. -/
def State.setCalls (s : State) (l : List HostCall) : State := { s with hostCalls := l }

/-- A call hands a value back to the host. -/
def State.ret (s : State) (r : HostResult) : State := { s with results := s.results ++ [r] }

/-- The Card has no further step (70 R301). -/
def State.markDestroyed (s : State) : State := { s with destroyed := true }

/-! ### Errors and marks -/

/-- `raise` (60_exceptions R260, R269): append the record to the event log. Nothing is saved, no control transfer
occurs, and there is nothing to return from (R270). -/
def State.report (s : State) (e : Event) : State := { s with events := s.events ++ [e] }

/-- Several reports in order, which only a commit can make (R268). -/
def State.reportAll (s : State) (es : List Event) : State := { s with events := s.events ++ es }

/-- `fault` (R265): set the sticky fault mark. -/
def State.markFault (s : State) : State := { s with faultMark := true }

/-- `refuse` (R266): set the sticky refused mark. -/
def State.markRefused (s : State) : State := { s with refusedMark := true }

/-- The numeric code of an event's kind (R260, D28). -/
def Event.code : Event → Nat
  | .protocolError _ => 1
  | .mediaError _ => 2
  | .ioError _ _ => 3
  | .logicError _ => 4

/-- The 4-bit code of a decoder state (10_state R22, D1). No rule reads it. -/
def DecoderState.code : DecoderState → BitVec 4
  | .awaitingCommand => 0x0
  | .awaitingArg k => 0x1 + BitVec.ofNat 4 k
  | .awaitingCrc => 0x5
  | .awaitingDataToken => 0x6
  | .awaitingData => 0x7
  | .awaitingDataCrc1 => 0x8
  | .awaitingDataCrc2 => 0x9

end Sys2Proof.Machine
end

