-- ==== Sys2Proof/Machine/Operands.lean ====
section
/-! DEFINITION. The operand forms of the commands, all taken from the argument register (30_encoding R74), and the
frame the decoder has latched. -/

namespace Sys2Proof.Machine

/-- `arg32(card)` (10_state R24): the sector index of READ_SINGLE_BLOCK and WRITE_BLOCK, unscaled (20_memory R41). -/
def arg32 (s : State) : SectorIndex := argOf s.argument[0] s.argument[1] s.argument[2] s.argument[3]

/-- `0x00000100 | zext_32(card.argument[3])`: the echo value of SEND_IF_COND (30_encoding R80). -/
def ifCondEcho (s : State) : BitVec 32 := 0x00000100 ||| s.argument[3].zeroExtend 32

/-- The six bytes of the frame that the byte `b` completes: the latched index under its framing bits, the four
argument bytes, and `b` in the place of the CRC (R70). -/
def latchedFrame (s : State) (b : Byte) : List Byte :=
  [commandByte s.currentCommand, s.argument[0], s.argument[1], s.argument[2], s.argument[3], b]

end Sys2Proof.Machine
end

