-- ==== Sys2Proof/Machine/Flags.lean ====
section
/-! DEFINITION. The Card's one flag, `idle`, and the status byte made of it (10_state R26; 60_exceptions R271). -/

namespace Sys2Proof.Machine

/-- The status byte: the idle flag in bit 0, the rest zero (R26). -/
def statusByte (s : State) : Byte := if s.idle then 0x01 else 0x00

/-- The flag the spec calls dirty: the cache is not empty (42_sector_cache R207). -/
def dirtyFlag (s : State) : Bool := !s.cache.isEmpty

end Sys2Proof.Machine
end

