-- ==== Sys2Proof/Machine/Registers.lean ====
section
/-! DEFINITION. The register layouts carried in responses (30_encoding R77 to R79) and the Response Encoder
(R73; 41_commands R152). -/

namespace Sys2Proof.Machine

/-- `CSD_CID_PAYLOAD_LEN` (00_scope R11, D14). -/
def csdCidPayloadLen : Nat := 512

/-- The OCR value: power-up and high-capacity bits set (R79). -/
def ocrValue : BitVec 32 := 0xC0000000

/-- The 16 bytes of the CSD, in the version 2.0 layout of R77: CSD_STRUCTURE 1, READ_BL_LEN 9, C_SIZE in bytes 7 to
9, WRITE_BL_LEN 9, bit 0 set, every other bit 0 (D12). -/
def csdRegister (c : BitVec 16) : List Byte :=
  [0x40, 0x00, 0x00, 0x00, 0x00, 0x09, 0x00, 0x00, c.extractLsb' 8 8, c.extractLsb' 0 8, 0x00, 0x00, 0x02, 0x40,
    0x00, 0x01]

/-- The 16 bytes of the CID: zero but for bit 0 (R78, D13). -/
def cidRegister : List Byte := List.replicate 15 0x00 ++ [0x01]

/-- A register as a data block's payload: zero bytes after it (D14). -/
def registerPayload (r : List Byte) : List Byte := r ++ List.replicate (csdCidPayloadLen - r.length) 0x00

/-- `csd_payload(c)` (R77). -/
def csdPayload (c : BitVec 16) : List Byte := registerPayload (csdRegister c)

/-- `cid_payload` (R78). -/
def cidPayload : List Byte := registerPayload cidRegister

/-- The four bytes of a 32-bit value, most significant first (20_memory R40). -/
def bytes32 (v : BitVec 32) : List Byte := [argByte v 0, argByte v 1, argByte v 2, argByte v 3]

/-- The `Status` response: the status byte alone (R73). -/
def encStatus (s : State) : State := s.respond [statusByte s]

/-- The `StatusEcho` response: the status byte and a 32-bit value, big-endian (R73). -/
def encStatusEcho (v : BitVec 32) (s : State) : State := s.respond (statusByte s :: bytes32 v)

/-- The `DataBlock` response: status byte, data token, payload, two zero CRC bytes (R73). -/
def encDataBlock (p : List Byte) (s : State) : State :=
  s.respond (statusByte s :: dataTokenByte :: (p ++ [0x00, 0x00]))

/-- The `DataAck` response: 0x05, 0x05 whatever `idle` is (R73, 90_conflicts C2, C3). -/
def encDataAck (s : State) : State := s.respond [0x05, 0x05]

end Sys2Proof.Machine
end

