-- ==== Sys2Proof/Machine/Store.lean ====
section
/-! DEFINITION. The backing-store collaborator: reading and writing one sector (44_host_interface R242, R243,
R245). Each call takes the next draw number; the counter advances by one for each call. -/

namespace Sys2Proof.Machine

/-- `total_sectors` (43_geometry R221): an unbounded product (D26). -/
def Geometry.totalSectors (g : Geometry) : Nat := g.cylinders * g.heads * g.sectorsPerTrack

/-- How many bytes a physical sector has: 256 when the store says so, else the 512 of a logical sector (20_memory
R44; 42 R201). -/
def Store.physicalBytes (st : Store) : Nat := if st.geometry.sectorSize = 256 then 256 else 512

/-- The address of the first byte of a sector. -/
def sectorBase (i : SectorIndex) : Nat := 512 * i.toNat

/-- The 512 bytes a successful read answers: the store's sector, and past a 256-byte physical sector unspecified
bytes (R242). -/
def Store.sectorAt (st : Store) (n : Nat) (i : SectorIndex) : Sector :=
  Vector.ofFn fun j =>
    if st.physicalBytes ≤ j.1 then Config.upperHalfByte n j else Memory.readByte st.data (sectorBase i + j)

/-- The store with the given bytes as a sector's physical bytes. -/
def Store.putBytes (st : Store) (i : SectorIndex) (bytes : List Byte) : Store :=
  { st with data := Memory.writeBlock st.data (sectorBase i) (bytes.take st.physicalBytes) }

/-- `StoreRead(index)` with draw number `n`: the sector, or IoError (R242, R245). -/
def Store.read (st : Store) (n : Nat) (i : SectorIndex) : Option Sector :=
  match st.kind with
  | .reference => if i.toNat < st.geometry.totalSectors then some (st.sectorAt n i) else none
  | .drawn => if Config.storeReadFails n then none else some (st.sectorAt n i)

/-- What a failed write leaves: any value (R243). -/
def failedSector (n : Nat) : List Byte := (List.range 512).map (Config.failedWriteByte n)

/-- `StoreWrite(index, bytes)` with draw number `n`: whether it succeeds, and the store after it (R243, R245). -/
def Store.write (st : Store) (n : Nat) (i : SectorIndex) (bytes : Sector) : Bool × Store :=
  match st.kind with
  | .reference =>
    if i.toNat < st.geometry.totalSectors then (true, st.putBytes i bytes.toList) else (false, st)
  | .drawn =>
    if Config.storeWriteFails n then (false, st.putBytes i (failedSector n)) else (true, st.putBytes i bytes.toList)

end Sys2Proof.Machine
end

