-- ==== Sys2Proof/Machine/SectorCache.lean ====
section
/-! DEFINITION. The Sector Cache, the sector read and write paths, the commit, and data-phase execution
(42_sector_cache R200 to R210). -/

namespace Sys2Proof.Machine

/-! ### The map -/

/-- `CacheLookup(index)` (R204). -/
def cacheLookup : List (SectorIndex × Sector) → SectorIndex → Option Sector
  | [], _ => none
  | (k, e) :: c, i => if k = i then some e else cacheLookup c i

/-- `CachePut(index, bytes)` (R205): insert or overwrite, the keys kept strictly rising. -/
def cachePut : List (SectorIndex × Sector) → SectorIndex → Sector → List (SectorIndex × Sector)
  | [], i, e => [(i, e)]
  | (k, f) :: c, i, e =>
    if i < k then (i, e) :: (k, f) :: c
    else if k = i then (i, e) :: c
    else (k, f) :: cachePut c i e

/-- The cache's canonical form: keys unique and strictly rising (10_state R30). -/
def cacheWf (c : List (SectorIndex × Sector)) : Bool := decide (c.Pairwise (fun a b => a.1 < b.1))

/-! ### Physical layouts of 256-byte sectors -/

/-- `Unpack256(phys)` (R201): physical byte `j` at the even logical index, 0xFF at the odd one. -/
def unpack256 (phys : Sector) : Sector :=
  Vector.ofFn fun j => if j.1 % 2 = 0 then phys[j.1 / 2] else 0xFF

/-- `Pack256(e, data)` (R203): the even-indexed logical bytes in bytes 0 to 255, the rest of the entry unchanged. -/
def pack256 (e data : Sector) : Sector :=
  Vector.ofFn fun j => if h : j.1 < 256 then data[2 * j.1] else e[j]

/-! ### Sector read and write -/

/-- The logical sector of a physical one (R200). -/
def logicalSector (st : Store) (phys : Sector) : Sector :=
  if st.geometry.sectorSize = 256 then unpack256 phys else phys

/-- `SectorRead(index)` on a bound card (R200): the cache first, the store only on a miss. A store call advances the
draw counter; nothing else changes. -/
def sectorRead (index : SectorIndex) (st : Store) (s : State) : Option Sector × State :=
  match cacheLookup s.cache index with
  | some e => (some (logicalSector st e), s)
  | none => ((st.read s.draws index).map (logicalSector st), s.setDraws (s.draws + 1))

/-- The entry `SectorWrite` puts (R202): a new entry starts as zeros (D19). -/
def writtenEntry (st : Store) (old : Option Sector) (data : Sector) : Sector :=
  if st.geometry.sectorSize = 256 then pack256 (old.getD (Vector.replicate 512 0)) data else data

/-- `SectorWrite(index, data)` on a bound card (R202): it touches only the cache and cannot fail. -/
def sectorWrite (index : SectorIndex) (data : Sector) (st : Store) (s : State) : State :=
  s.setCache (cachePut s.cache index (writtenEntry st (cacheLookup s.cache index) data))

/-! ### Commit and discard -/

/-- Put one entry at a drawn place of a list. -/
def placeDrawn {α : Type} (n : Nat) (x : α) : List α → List α
  | [] => [x]
  | y :: l => (y :: l).insertIdx (Config.commitPosition n % (l.length + 2)) x

/-- The entries of the cache in the order a commit writes them, which is open (R208, D22): each entry is placed at a
drawn place among the entries after it, so that every order can be drawn. Draw numbers count from `n` on. -/
def drawnOrder {α : Type} (n : Nat) : List α → List α
  | [] => []
  | x :: l => placeDrawn n x (drawnOrder (n + 1) l)

/-- What a run of store writes leaves: the store, the next draw number, the indices that failed, in the order of the
attempts. -/
structure WriteRun where
  store : Store
  draws : Nat
  failed : List SectorIndex
  deriving DecidableEq, Repr

/-- Attempt every write in order; a failed one does not stop the rest (R208, D22). -/
def writeAll (st : Store) (n : Nat) : List (SectorIndex × Sector) → WriteRun
  | [] => { store := st, draws := n, failed := [] }
  | (i, e) :: l =>
    let w := st.write n i e
    let r := writeAll w.2 (n + 1) l
    if w.1 then r else { r with failed := i :: r.failed }

/-- The store writes of a commit: all entries, in a drawn order. -/
def commitRun (st : Store) (s : State) : WriteRun :=
  writeAll st (s.draws + s.cache.length) (drawnOrder s.draws s.cache)

/-- The cache after a commit: unchanged, or with `COMMIT_CLEARS` only the failed entries (R208). -/
def committedCache (s : State) (failed : List SectorIndex) : List (SectorIndex × Sector) :=
  if s.params.commitClears then s.cache.filter (fun p => failed.contains p.1) else s.cache

/-- `CacheCommit()` on a bound card (R208): whether every write succeeded, and the state after it. -/
def cacheCommit (st : Store) (s : State) : Bool × State :=
  let r := commitRun st s
  (r.failed.isEmpty,
    (((s.setStore (some r.store)).setDraws r.draws).reportAll (r.failed.map (Event.ioError .write))).setCache
      (committedCache s r.failed))

/-- `CacheDiscard()` (R209). -/
def cacheDiscard (s : State) : State := s.setCache []

/-! ### Data-phase execution -/

/-- `ExecuteDataPhase()` (R210), at the second data CRC byte. The LogicError case sets the fault mark and skips the
block (60 R264). -/
def executeDataPhase (s : State) : State :=
  if s.currentCommand = cmdIndex .writeBlock then
    match s.boundStore with
    | none => s
    | some st => encDataAck (sectorWrite (arg32 s) s.sendBuffer st s)
  else (s.report (.logicError s.currentCommand)).markFault

end Sys2Proof.Machine
end

