-- ==== Sys2Proof/Machine/Commands.lean ====
section
/-! DEFINITION. The Command Dispatcher's shared operations and the commands that touch no sector: GO_IDLE_STATE,
SEND_IF_COND, SEND_CSD, SEND_CID, APP_SEND_OP_COND, APP_CMD, READ_OCR (41_commands R150 to R161).

The meaning of a command frame is what the whole frame leaves once its CRC byte is taken: the index and argument bytes
latched (40 R120, R121), the dispatch (R150) and the decoder's transition (R122). When `step` reaches the CRC byte the
first part has already happened, byte by byte, and is the same again. Log entry 9. -/

namespace Sys2Proof.Machine

/-- `Dispatch` (R150): with no store bound nothing changes; else the command's own effect. -/
def dispatch (effect : Store → State → State) (s : State) : State :=
  match s.boundStore with
  | none => s
  | some st => effect st s

/-- The decoder state after a frame (40 R122): the data phase follows WRITE_BLOCK only. -/
def afterFrame (c : Command) : DecoderState := if c = .writeBlock then .awaitingDataToken else .awaitingCommand

/-- The end of a frame (40 R122): dispatch first, then the transition. -/
def completeFrame (c : Command) (arg : BitVec 32) (effect : Store → State → State) (s : State) : Outcome :=
  .next ((dispatch effect (s.latchFrame (cmdIndex c) arg)).setDecoder (afterFrame c))

/-- GO_IDLE_STATE (R153): `idle <- 1`, then Status. -/
def execGoIdleState (arg : BitVec 32) (_crc : Byte) (s : State) : Outcome :=
  completeFrame .goIdleState arg (fun _ c => encStatus (c.setIdle true)) s

/-- SEND_IF_COND (R154): StatusEcho of the check pattern. -/
def execSendIfCond (arg : BitVec 32) (_crc : Byte) (s : State) : Outcome :=
  completeFrame .sendIfCond arg (fun _ c => encStatusEcho (ifCondEcho c) c) s

/-- SEND_CSD (R155): DataBlock of the CSD. -/
def execSendCsd (arg : BitVec 32) (_crc : Byte) (s : State) : Outcome :=
  completeFrame .sendCsd arg (fun _ c => encDataBlock (csdPayload c.capacityField) c) s

/-- SEND_CID (R156): DataBlock of the CID. -/
def execSendCid (arg : BitVec 32) (_crc : Byte) (s : State) : Outcome :=
  completeFrame .sendCid arg (fun _ c => encDataBlock cidPayload c) s

/-- APP_SEND_OP_COND (R159): `idle <- 0`, then Status. -/
def execAppSendOpCond (arg : BitVec 32) (_crc : Byte) (s : State) : Outcome :=
  completeFrame .appSendOpCond arg (fun _ c => encStatus (c.setIdle false)) s

/-- APP_CMD (R160): Status; no mode is set (30 R82). -/
def execAppCmd (arg : BitVec 32) (_crc : Byte) (s : State) : Outcome :=
  completeFrame .appCmd arg (fun _ c => encStatus c) s

/-- READ_OCR (R161): StatusEcho of the OCR value. -/
def execReadOcr (arg : BitVec 32) (_crc : Byte) (s : State) : Outcome :=
  completeFrame .readOcr arg (fun _ c => encStatusEcho ocrValue c) s

end Sys2Proof.Machine
end

