-- ==== Sys2Proof/Machine/BlockCommands.lean ====
section
/-! DEFINITION. The instructions that move a sector: READ_SINGLE_BLOCK, WRITE_BLOCK and the data token
(41_commands R157, R158; 40_frame_decoder R127). -/

namespace Sys2Proof.Machine

/-- READ_SINGLE_BLOCK on a bound card (R157): DataBlock of the sector; on a failed store read an IoError and the
response unchanged. -/
def readBlockEffect (st : Store) (s : State) : State :=
  match sectorRead (arg32 s) st s with
  | (some p, t) => encDataBlock p.toList t
  | (none, t) => t.report (.ioError .read (arg32 s))

/-- READ_SINGLE_BLOCK (R157). -/
def execReadSingleBlock (arg : BitVec 32) (_crc : Byte) (s : State) : Outcome :=
  completeFrame .readSingleBlock arg readBlockEffect s

/-- WRITE_BLOCK (R158): Status now; the data phase follows. -/
def execWriteBlock (arg : BitVec 32) (_crc : Byte) (s : State) : Outcome :=
  completeFrame .writeBlock arg (fun _ c => encStatus c) s

/-- DATA_TOKEN (40 R127): it opens the data phase in AwaitingDataToken. In any other decoder state the byte is no data
token and has no effect as one; `step` runs this meaning in AwaitingDataToken only. Log entry 10. -/
def execDataToken (s : State) : Outcome :=
  match s.decoderState with
  | .awaitingDataToken => .next ((s.setCount 0).setDecoder .awaitingData)
  | _ => .next s

end Sys2Proof.Machine
end

