-- ==== Sys2Proof/Machine/Dispatch.lean ====
section
/-! DEFINITION. The meaning of every instruction: one arm per constructor of Instr. -/

namespace Sys2Proof.Machine

def exec (i : Instr) (s : State) : Host.Outcome State Fault Refusal :=
  match i with
  | .goIdleState arg crc => Sys2Proof.Machine.execGoIdleState arg crc s
  | .sendIfCond arg crc => Sys2Proof.Machine.execSendIfCond arg crc s
  | .sendCsd arg crc => Sys2Proof.Machine.execSendCsd arg crc s
  | .sendCid arg crc => Sys2Proof.Machine.execSendCid arg crc s
  | .readSingleBlock arg crc => Sys2Proof.Machine.execReadSingleBlock arg crc s
  | .writeBlock arg crc => Sys2Proof.Machine.execWriteBlock arg crc s
  | .appSendOpCond arg crc => Sys2Proof.Machine.execAppSendOpCond arg crc s
  | .appCmd arg crc => Sys2Proof.Machine.execAppCmd arg crc s
  | .readOcr arg crc => Sys2Proof.Machine.execReadOcr arg crc s
  | .dataToken => Sys2Proof.Machine.execDataToken s

end Sys2Proof.Machine
end

