-- ==== Sys2Proof/Machine/FrameDecoder.lean ====
section
/-! DEFINITION. The Command Frame Decoder: one transition per written byte (40_frame_decoder R120 to R133). -/

namespace Sys2Proof.Machine

/-- AwaitingCommand (R120): a byte of invalid framing is discarded, an unsupported index is reported, a supported one
is latched. -/
def acceptCommandByte (b : Byte) (s : State) : State :=
  if validFrameByte b then
    match commandOf (indexOf b) with
    | none => s.report (.protocolError (indexOf b))
    | some _ => (s.setCurrent (indexOf b)).setDecoder (.awaitingArg 0)
  else s

/-- The state after argument byte `k` (R121). -/
def afterArg (k : Fin 4) : DecoderState :=
  if h : k.1 < 3 then .awaitingArg ⟨k.1 + 1, by omega⟩ else .awaitingCrc

/-- AwaitingArg(k) (R121): any byte is argument byte `k`. -/
def acceptArgByte (k : Fin 4) (b : Byte) (s : State) : State := (s.setArgByte k b).setDecoder (afterArg k)

/-- AwaitingCrc (R122): the frame is complete; run the instruction its latched bytes decode to. -/
def runFrame (b : Byte) (s : State) : Outcome :=
  match decode .command (latchedFrame s b) with
  | .ok (i, _) => exec i s
  | .error _ => .fault .undecodableFrame

/-- AwaitingDataToken (R127): run the data token; ignore any other byte. -/
def awaitToken (b : Byte) (s : State) : Outcome :=
  match decode .dataToken [b] with
  | .ok (i, _) => exec i s
  | .error _ => .next s

/-- AwaitingData (R128): the next data byte; the 512th one ends the block. -/
def acceptDataByte (b : Byte) (s : State) : Outcome :=
  if h : s.dataCount < 512 then
    let t := (s.setSend (s.sendBuffer.set s.dataCount b h)).setCount (s.dataCount + 1)
    .next (if s.dataCount + 1 = 512 then t.setDecoder .awaitingDataCrc1 else t)
  else .fault .sendBufferOverrun

/-- `write(b)` (44 R232): the one transition of the decoder state (R133). -/
def writeByte (b : Byte) (s : State) : Outcome :=
  match s.decoderState with
  | .awaitingCommand => .next (acceptCommandByte b s)
  | .awaitingArg k => .next (acceptArgByte k b s)
  | .awaitingCrc => runFrame b s
  | .awaitingDataToken => awaitToken b s
  | .awaitingData => acceptDataByte b s
  | .awaitingDataCrc1 => .next (s.setDecoder .awaitingDataCrc2)
  | .awaitingDataCrc2 => .next ((executeDataPhase s).setDecoder .awaitingCommand)

/-- Place the bytes of an instruction so that the very next step runs it (`State.withFetchWord`). The data token:
the decoder waits for it, after a WRITE_BLOCK frame, and its byte is the next one the host writes. A supported frame:
all but its last byte have been received and the CRC byte is the next one the host writes. Other bytes: they are
written from the first one on, in AwaitingCommand. Log entry 7. -/
def placeBytes (s : State) : List Byte → State
  | b :: a0 :: a1 :: a2 :: a3 :: crc :: _ =>
    if b = dataTokenByte then
      ((s.setCurrent (cmdIndex .writeBlock)).setDecoder .awaitingDataToken).setCalls (.write b :: s.hostCalls)
    else if validFrameByte b && (commandOf (indexOf b)).isSome then
      ((s.latchFrame (indexOf b) (argOf a0 a1 a2 a3)).setDecoder .awaitingCrc).setCalls (.write crc :: s.hostCalls)
    else
      (s.setDecoder .awaitingCommand).setCalls
        (.write b :: .write a0 :: .write a1 :: .write a2 :: .write a3 :: .write crc :: s.hostCalls)
  | _ => s

end Sys2Proof.Machine
end

