-- ==== Sys2Proof/Machine/HostInterface.lean ====
section
/-! DEFINITION. The host's entry points and the Geometry Translator (44_host_interface R230 to R237; 43_geometry R220
to R224; 70_reset R301). -/

namespace Sys2Proof.Machine

/-! ### Reset, read -/

/-- `select()` / `reset()` (R231): the decoder's initial state and an empty response; nothing else (D4). -/
def select (s : State) : State := (s.setDecoder .awaitingCommand).clearResponse

/-- What `read()` returns past the end, `READ_FILL` (00_scope R10). -/
def readFill : Byte := 0xFF

/-- `read()` (R233): the next response byte while bytes remain, else 0xFF and no change. -/
def readByte (s : State) : Outcome :=
  if s.response.cursor < s.response.endPos then
    match s.response.buf[s.response.cursor]? with
    | some v => .next ((s.setCursor (s.response.cursor + 1)).ret (.byte v))
    | none => .fault .responseOverrun
  else .next (s.ret (.byte readFill))

/-! ### Eject, commit, dirty -/

/-- Let go of the bound store (R235): persist the cache first where the policy says so, then drop it, then release
the store. -/
def unbind (st : Store) (s : State) : State :=
  let t := if s.params.ejectPersists then (cacheCommit st s).2 else s
  ((cacheDiscard t).release (t.boundStore.getD st)).setStore none

/-- `eject()` (R235): unbind where a store is bound, and the implicit reset in any case (D5, D6). -/
def eject (s : State) : State :=
  match s.boundStore with
  | none => select s
  | some st => select (unbind st s)

/-- `is_dirty()` (R236, 42 R207). -/
def isDirty (s : State) : State := s.ret (.dirty (dirtyFlag s))

/-- `commit()` (R237): `Ok` with no effect on an unbound card (D31), else the cache's commit. -/
def commit (s : State) : State :=
  match s.boundStore with
  | none => s.ret .ok
  | some st =>
    let r := cacheCommit st s
    r.2.ret (if r.1 then .ok else .ioError)

/-! ### Geometry and insert -/

/-- `C_SIZE_UNIT` (00_scope R10). -/
def cSizeUnit : Nat := 1024

/-- `C_SIZE_MAX` (00_scope R10, 43 R223). -/
def cSizeMax : Nat := 65375

/-- The capacity code of a number of sectors, clamped (43 R222, R223). -/
def capacityOf (totalSectors : Nat) : BitVec 16 := BitVec.ofNat 16 (min (totalSectors / cSizeUnit - 1) cSizeMax)

/-- An insert that fails (43 R224; 60 R262): reported, returned, and the card unbound. -/
def insertError (d : MediaDetail) (s : State) : State := (s.report (.mediaError d)).ret .mediaError

/-- A store that passes validation is bound (43 R224). -/
def bindStore (st : Store) (s : State) : State :=
  (((s.setCapacity (capacityOf st.geometry.totalSectors)).setCache []).setStore (some st)).ret .ok

/-- Validation of an opened store on an unbound card, in the order of D27 (43 R221, R224): the sector size, the
multiple of 1024, then zero sectors, which the spec refuses (D25). -/
def admitStore (st : Store) (s : State) : State :=
  if st.geometry.sectorSize ∉ s.params.acceptedSectorSizes then
    insertError (.unsupportedSectorSize st.geometry.sectorSize) (s.release st)
  else if st.geometry.totalSectors % cSizeUnit ≠ 0 then
    insertError (.notMultipleOf1024 st.geometry.totalSectors) (s.release st)
  else if st.geometry.totalSectors = 0 then s.markRefused
  else bindStore st s

/-- `insert(path)` on an unbound card (43 R224), from what opening the path answers. -/
def insertUnbound (o : OpenResult) (s : State) : State :=
  match o with
  | .openFailed => insertError .openFailed s
  | .geometryFailed => insertError .geometryFailed s
  | .opened st => admitStore st s

/-- `insert(path)` (43 R224): on a bound card an eject comes first (D23). -/
def insertPath (o : OpenResult) (s : State) : State :=
  match s.boundStore with
  | none => insertUnbound o s
  | some _ => insertUnbound o (eject s)

/-! ### Destruction and the calls together -/

/-- Destruction (70 R301): an eject, after which the Card has no further step. -/
def destroy (s : State) : State := (eject s).markDestroyed

/-- One call of the host, run to completion (20_memory R45). -/
def runCall (c : HostCall) (s : State) : Outcome :=
  match c with
  | .select => .next (select s)
  | .write b => writeByte b s
  | .read => readByte s
  | .insert o => .next (insertPath o s)
  | .eject => .next (eject s)
  | .isDirty => .next (isDirty s)
  | .commit => .next (commit s)
  | .destroy => .next (destroy s)

/-- The Card between calls (00_scope R8): the next pending call is taken and run; with none pending nothing happens.
Log entry 4. -/
def runPending (s : State) : Outcome :=
  match s.hostCalls with
  | [] => .next s
  | c :: rest => runCall c (s.setCalls rest)

end Sys2Proof.Machine
end

