-- ==== Sys2Proof/Machine/Session.lean ====
section
/-! DEFINITION. The spec's notation for the host's side of a session, as lists of calls (30_encoding R83, R84). -/

namespace Sys2Proof.Machine

/-- `W` for each byte. -/
def callsWrite (bytes : List Byte) : List HostCall := bytes.map HostCall.write

/-- `R` n times. -/
def callsRead (n : Nat) : List HostCall := List.replicate n .read

/-- The customary CRC byte of a frame (R84); any value has the same effect. -/
def customaryCrc : Command → Byte
  | .goIdleState => 0x95
  | .sendIfCond => 0x87
  | _ => 0xFF

/-- `CMDn(a)` (R84). -/
def callsCommand (c : Command) (arg : BitVec 32) : List HostCall := callsWrite (encodeFrame c arg (customaryCrc c))

/-- `BLOCK(P)` (R84): the token, the 512 bytes, two bytes in the place of the CRC. -/
def callsBlock (p : Sector) : List HostCall := callsWrite (dataTokenByte :: (p.toList ++ [0xFF, 0xFF]))

/-- `WRITEBLK(i, P)` (R84). -/
def callsWriteBlk (i : SectorIndex) (p : Sector) : List HostCall := callsCommand .writeBlock i ++ callsBlock p

/-- `READBLK(i)` (R84). -/
def callsReadBlk (i : SectorIndex) : List HostCall := callsCommand .readSingleBlock i ++ callsRead 516

/-- `INSERT(C,H,S,SS)` of a store with no byte set (R83, 44 R245). -/
def callInsert (kind : StoreKind) (cyl heads spt size : Nat) : HostCall :=
  .insert (.opened { geometry := { cylinders := cyl, heads := heads, sectorsPerTrack := spt, sectorSize := size },
                     data := [], kind := kind })

end Sys2Proof.Machine
end

