-- ==== Sys2Proof/Machine/Step.lean ====
section
/-! DEFINITION. The machine's step: one call of the host (00_scope R9). -/

namespace Sys2Proof.Machine

/-- One transaction. A refused state and a destroyed Card have no further step (60 R266, 70 R301). -/
def step (s : State) : Host.Outcome State Fault Refusal :=
  if s.refusedMark then .refused .zeroCapacity
  else if s.destroyed then .refused .cardDestroyed
  else runPending s

/-- The state with an instruction placed so that the very next step runs it; its bits are numbered as
spec/opcode_table.json numbers them. Log entry 7. -/
def State.withFetchWord (s : State) (nbits w : Nat) : State := placeBytes s (tableBytes nbits w)

end Sys2Proof.Machine
end

