-- ==== Sys2Proof/Safety.lean ====
section
/-! DEFINITION. What the claims use: when the Card can step, what a good state is, what a commit leaves of a store,
and the invariant of every run. -/

namespace Sys2Proof.Machine

/-- The Card can step: it is neither refused (60 R266) nor destroyed (70 R301). -/
def State.CanStep (s : State) : Prop := s.refusedMark = false ∧ s.destroyed = false

/-- A good state: no LogicError has been recorded and nothing was refused (60 R265, R266). -/
def State.Good (s : State) : Prop := s.faultMark = false ∧ s.refusedMark = false

/-- The session has ended: no call of the host is left (44 R247). -/
def State.SessionEnded (s : State) : Prop := s.hostCalls = []

/-- `k` steps, stopping at the first fault or refusal. -/
def runSteps : Nat → State → Outcome
  | 0, s => .next s
  | k + 1, s =>
    match step s with
    | .next t => runSteps k t
    | .fault r => .fault r
    | .refused r => .refused r

/-- The four data-phase states (40 R131). -/
def DecoderState.inDataPhase : DecoderState → Bool
  | .awaitingCommand => false
  | .awaitingArg _ => false
  | .awaitingCrc => false
  | .awaitingDataToken => true
  | .awaitingData => true
  | .awaitingDataCrc1 => true
  | .awaitingDataCrc2 => true

/-- All 512 bytes of the block have been received (40 R128). -/
def DecoderState.blockComplete : DecoderState → Bool
  | .awaitingDataCrc1 => true
  | .awaitingDataCrc2 => true
  | _ => false

/-- What validation (43 R221) and the capacity rules (R222, R223) leave true of a bound store. -/
structure Store.Usable (st : Store) (s : State) : Prop where
  dataCanonical : st.data.wf = true
  sizeAccepted : st.geometry.sectorSize ∈ s.params.acceptedSectorSizes
  wholeUnits : st.geometry.totalSectors % 1024 = 0
  notEmpty : st.geometry.totalSectors ≠ 0
  capacity : s.capacityField.toNat = min (st.geometry.totalSectors / 1024 - 1) 65375

/-- What the store writes of one commit leave of a store, from the cache `c` and the indices that failed (42 R208; 44
R243, R245). A physical sector has 256 or 512 bytes, and byte `j` of sector `i` has the address `512 * i + j` (log
entry 6). -/
structure Store.Persisted (st st' : Store) (c : List (SectorIndex × Sector)) (failed : List SectorIndex) : Prop where
  geometry : st'.geometry = st.geometry
  kind : st'.kind = st.kind
  /-- Only entries of the cache are attempted. -/
  failedAreKeys : ∀ i ∈ failed, (cacheLookup c i).isSome = true
  /-- Each entry is attempted once. -/
  failedOnce : cacheWf c = true → failed.Nodup
  /-- Every entry that did not fail is in the store: each of its physical bytes reads as cached. -/
  written : cacheWf c = true → ∀ i e, cacheLookup c i = some e → i ∉ failed →
    ∀ j (h : j < 512), (st.geometry.sectorSize = 256 → j < 256) →
      Memory.readByte st'.data (512 * i.toNat + j) = e[j]
  /-- Outside the physical bytes of the cached sectors nothing changes. -/
  others : ∀ a, (∀ p ∈ c, ¬ (512 * p.1.toNat ≤ a ∧
      a < 512 * p.1.toNat + (if st.geometry.sectorSize = 256 then 256 else 512))) →
    Memory.readByte st'.data a = Memory.readByte st.data a
  /-- On the reference store exactly the entries at or past its number of sectors fail. -/
  referenceFails : st.kind = .reference →
    ∀ i, i ∈ failed ↔ (cacheLookup c i).isSome = true ∧ ¬ i.toNat < st.geometry.totalSectors
  /-- The reference store keeps a sector whose write failed. -/
  referenceKeeps : st.kind = .reference → ∀ i ∈ failed, ∀ j, j < 512 →
    Memory.readByte st'.data (512 * i.toNat + j) = Memory.readByte st.data (512 * i.toNat + j)
  /-- On any other store a write fails only where a draw says so. -/
  drawnFails : st.kind = .drawn → failed ≠ [] → ∃ n, Config.storeWriteFails n = true

/-- The invariant every step keeps. -/
structure State.Inv (s : State) : Prop where
  /-- 10_state R29. -/
  cursorInEnd : s.response.cursor ≤ s.response.endPos
  /-- 10_state R29. -/
  endInBuffer : s.response.endPos ≤ 516
  /-- 10_state R25: at most 512 bytes. -/
  countBounded : s.dataCount ≤ 512
  /-- 40 R128: while the block is being received it is not complete. -/
  countWhileReceiving : s.decoderState = .awaitingData → s.dataCount < 512
  /-- 40 R128: after the block all of it has been received. -/
  countAfterBlock : s.decoderState.blockComplete = true → s.dataCount = 512
  /-- 10_state R23: outside AwaitingCommand a supported command is latched. -/
  commandLatched : s.decoderState ≠ .awaitingCommand → (commandOf s.currentCommand).isSome = true
  /-- 40 R131: in the data phase it is WRITE_BLOCK. -/
  dataPhaseIsWrite : s.decoderState.inDataPhase = true → s.currentCommand = cmdIndex .writeBlock
  /-- 10_state R30: the cache's keys are unique. -/
  cacheCanonical : cacheWf s.cache = true
  /-- 42 R207: on an unbound card the cache is empty. -/
  cacheNeedsStore : s.boundStore = none → s.cache = []
  /-- 43 R221 to R223. -/
  storeUsable : ∀ st, s.boundStore = some st → st.Usable s
  /-- The data of released stores stay canonical. -/
  releasedCanonical : ∀ st ∈ s.released, st.data.wf = true
  /-- The images of pending inserts are canonical. -/
  callsWellFormed : ∀ c ∈ s.hostCalls, c.wellFormed = true
  /-- 60 R265: no run sets the fault mark. -/
  noFault : s.faultMark = false

end Sys2Proof.Machine
end

