-- ==== Sys2Proof/Certificates/Slice0/Obligations.lean ====
section
/-! DEFINITION. The statements for the provers. A run of `k` steps is `runSteps k`. -/

open Sys2Proof Sys2Proof.Machine

/-! ### Encoding -/

/-- Every well-formed instruction, at every operand value, decodes from its own encoding (30_encoding R70, R71, R72,
R75), whatever bytes come after it. -/
def Obligations.DecodeOfEncode : Prop :=
  ∀ (sl : Slot) (i : Instr) (rest : List Byte), i.wellFormed sl = true →
    decode sl (encode i ++ rest) = .ok (i, rest)

/-- The other direction: what decodes is the encoding of a well-formed instruction, so no other bytes are accepted
(30_encoding R70, R76, R81). -/
def Obligations.DecodedBytesAreAnEncoding : Prop :=
  ∀ (sl : Slot) (bs rest : List Byte) (i : Instr), decode sl bs = .ok (i, rest) →
    i.wellFormed sl = true ∧ bs = encode i ++ rest

/-- A few words written out from the spec's encodings (30_encoding R70, R75). -/
def Obligations.SampleWordsDecode : Prop :=
  decodeTableWord 48 0x400000000095 = some (.goIdleState 0 0x95) ∧
  decodeTableWord 48 0x48000001AA87 = some (.sendIfCond 0x000001AA 0x87) ∧
  decodeTableWord 48 0x51000007D0FF = some (.readSingleBlock 2000 0xFF) ∧
  decodeTableWord 48 0x694000000000 = some (.appSendOpCond 0x40000000 0x00) ∧
  decodeTableWord 8 0xFE = some .dataToken ∧
  decodeTableWord 48 0x410000000000 = none ∧
  decodeTableWord 8 0xFF = none

/-- The argument register is big-endian (10_state R24). -/
def Obligations.ArgumentIsBigEndian : Prop :=
  ∀ s : State, arg32 s =
    (s.argument[0].zeroExtend 32 <<< 24) ||| (s.argument[1].zeroExtend 32 <<< 16) |||
      (s.argument[2].zeroExtend 32 <<< 8) ||| s.argument[3].zeroExtend 32

/-! ### The decoder's transitions, each one step -/

/-- AwaitingCommand (40 R120): the three classes of a byte (30_encoding R76). -/
def Obligations.CommandByteTransition : Prop :=
  ∀ (s : State) (b : Byte) (rest : List HostCall), s.CanStep → s.hostCalls = .write b :: rest →
    s.decoderState = .awaitingCommand →
    (b &&& 0xC0 ≠ 0x40 → step s = .next { s with hostCalls := rest }) ∧
    (b &&& 0xC0 = 0x40 → (b &&& 0x3F).toNat ∉ [0, 8, 9, 10, 17, 24, 41, 55, 58] →
      step s = .next { s with hostCalls := rest,
                              events := s.events ++ [.protocolError (b.extractLsb' 0 6)] }) ∧
    (b &&& 0xC0 = 0x40 → (b &&& 0x3F).toNat ∈ [0, 8, 9, 10, 17, 24, 41, 55, 58] →
      step s = .next { s with hostCalls := rest, currentCommand := b.extractLsb' 0 6,
                              decoderState := .awaitingArg 0 })

/-- AwaitingArg(k) (40 R121). -/
def Obligations.ArgumentByteTransition : Prop :=
  ∀ (s : State) (b : Byte) (rest : List HostCall) (k : Fin 4), s.CanStep → s.hostCalls = .write b :: rest →
    s.decoderState = .awaitingArg k →
    step s = .next { s with hostCalls := rest, argument := s.argument.set k b,
                            decoderState := if k = 3 then .awaitingCrc else .awaitingArg (k + 1) }

/-- AwaitingDataToken (40 R127). -/
def Obligations.TokenWaitTransition : Prop :=
  ∀ (s : State) (b : Byte) (rest : List HostCall), s.CanStep → s.hostCalls = .write b :: rest →
    s.decoderState = .awaitingDataToken →
    (b = 0xFE → step s = .next { s with hostCalls := rest, dataCount := 0, decoderState := .awaitingData }) ∧
    (b ≠ 0xFE → step s = .next { s with hostCalls := rest })

/-- AwaitingData (40 R128), while fewer than 512 bytes have been received (no run leaves that state otherwise:
`StepKeepsTheInvariant`). -/
def Obligations.DataByteTransition : Prop :=
  ∀ (s : State) (b : Byte) (rest : List HostCall) (h : s.dataCount < 512), s.CanStep →
    s.hostCalls = .write b :: rest → s.decoderState = .awaitingData →
    step s = .next { s with hostCalls := rest, sendBuffer := s.sendBuffer.set s.dataCount b h,
                            dataCount := s.dataCount + 1,
                            decoderState := if s.dataCount + 1 = 512 then .awaitingDataCrc1 else .awaitingData }

/-- AwaitingDataCrc1 (40 R129). -/
def Obligations.FirstDataCrcTransition : Prop :=
  ∀ (s : State) (b : Byte) (rest : List HostCall), s.CanStep → s.hostCalls = .write b :: rest →
    s.decoderState = .awaitingDataCrc1 →
    step s = .next { s with hostCalls := rest, decoderState := .awaitingDataCrc2 }

/-- AwaitingDataCrc2 with data-phase execution (40 R130; 42 R202, R210; 60 R264, R265): the LogicError check, then the
bound-store check, then the sector in the cache and the acknowledgment. -/
def Obligations.DataPhaseExecution : Prop :=
  ∀ (s : State) (b : Byte) (rest : List HostCall), s.CanStep → s.hostCalls = .write b :: rest →
    s.decoderState = .awaitingDataCrc2 →
    (s.currentCommand ≠ 24 →
      step s = .next { s with hostCalls := rest, decoderState := .awaitingCommand, faultMark := true,
                              events := s.events ++ [.logicError s.currentCommand] }) ∧
    (s.currentCommand = 24 → s.boundStore = none →
      step s = .next { s with hostCalls := rest, decoderState := .awaitingCommand }) ∧
    (s.currentCommand = 24 → ∀ st, s.boundStore = some st → ∃ c,
      step s = .next { s with hostCalls := rest, decoderState := .awaitingCommand, cache := c,
                              response := s.response.load [0x05, 0x05] } ∧
      cacheLookup c (arg32 s) = some (if st.geometry.sectorSize = 256 then
          pack256 ((cacheLookup s.cache (arg32 s)).getD (Vector.replicate 512 0)) s.sendBuffer
        else s.sendBuffer) ∧
      (∀ i, i ≠ arg32 s → cacheLookup c i = cacheLookup s.cache i) ∧
      (cacheWf s.cache = true → cacheWf c = true))

/-! ### A step runs the decoded instruction -/

/-- At the CRC byte, and at a byte of the token wait, a step is `exec` of the instruction decoded there, on the state
with the call taken (40 R122, R127). -/
def Obligations.StepRunsDecodedInstruction : Prop :=
  ∀ (s : State) (b : Byte) (rest : List HostCall) (i : Instr) (tail : List Byte), s.CanStep →
    s.hostCalls = .write b :: rest →
    (s.decoderState = .awaitingCrc → decode .command (latchedFrame s b) = .ok (i, tail) →
      step s = exec i { s with hostCalls := rest }) ∧
    (s.decoderState = .awaitingDataToken → decode .dataToken [b] = .ok (i, tail) →
      step s = exec i { s with hostCalls := rest })

/-- The six bytes of any command frame, written one by one from AwaitingCommand, are together `exec` of that
instruction (40 R120, R121, R122; 30_encoding R70). -/
def Obligations.SixWritesRunTheFrame : Prop :=
  ∀ (s : State) (i : Instr) (rest : List HostCall), s.CanStep → s.decoderState = .awaitingCommand →
    i.wellFormed .command = true → s.hostCalls = (encode i).map .write ++ rest →
    runSteps 6 s = exec i { s with hostCalls := rest }

/-- A placed table word is run by the very next step (the model's own `withFetchWord`, log entry 7). -/
def Obligations.PlacedWordRunsNext : Prop :=
  ∀ (s : State) (nbits w : Nat) (i : Instr), s.CanStep → decodeTableWord nbits w = some i →
    step (s.withFetchWord nbits w) = exec i { s.withFetchWord nbits w with hostCalls := s.hostCalls }

/-! ### The instructions' results on a bound card: each completes, with this next state -/

/-- GO_IDLE_STATE (41 R153, R151). -/
def Obligations.GoIdleStateResult : Prop :=
  ∀ (arg : BitVec 32) (crc : Byte) (s : State) (st : Store), s.boundStore = some st →
    exec (.goIdleState arg crc) s = .next { s.latchFrame 0 arg with
      idle := true, response := s.response.load [0x01], decoderState := .awaitingCommand }

/-- SEND_IF_COND (41 R154; 30_encoding R80). -/
def Obligations.SendIfCondResult : Prop :=
  ∀ (arg : BitVec 32) (crc : Byte) (s : State) (st : Store), s.boundStore = some st →
    exec (.sendIfCond arg crc) s = .next { s.latchFrame 8 arg with
      response := s.response.load [statusByte s, 0x00, 0x00, 0x01, arg.extractLsb' 0 8],
      decoderState := .awaitingCommand }

/-- SEND_CSD (41 R155; 30_encoding R77). -/
def Obligations.SendCsdResult : Prop :=
  ∀ (arg : BitVec 32) (crc : Byte) (s : State) (st : Store), s.boundStore = some st →
    exec (.sendCsd arg crc) s = .next { s.latchFrame 9 arg with
      response := s.response.load ([statusByte s, 0xFE, 0x40, 0x00, 0x00, 0x00, 0x00, 0x09, 0x00, 0x00,
        s.capacityField.extractLsb' 8 8, s.capacityField.extractLsb' 0 8, 0x00, 0x00, 0x02, 0x40, 0x00, 0x01] ++
        (List.replicate 496 0x00 ++ [0x00, 0x00])),
      decoderState := .awaitingCommand }

/-- SEND_CID (41 R156; 30_encoding R78). -/
def Obligations.SendCidResult : Prop :=
  ∀ (arg : BitVec 32) (crc : Byte) (s : State) (st : Store), s.boundStore = some st →
    exec (.sendCid arg crc) s = .next { s.latchFrame 10 arg with
      response := s.response.load ([statusByte s, 0xFE] ++ (List.replicate 15 0x00 ++ ([0x01] ++
        (List.replicate 496 0x00 ++ [0x00, 0x00])))),
      decoderState := .awaitingCommand }

/-- READ_SINGLE_BLOCK (41 R157; 42 R200): a cached sector is served from the cache without a store call; otherwise the
store is called once, and a failed call is reported and leaves the response. -/
def Obligations.ReadSingleBlockResult : Prop :=
  ∀ (arg : BitVec 32) (crc : Byte) (s : State) (st : Store), s.boundStore = some st →
    (∀ e, cacheLookup s.cache arg = some e →
      exec (.readSingleBlock arg crc) s = .next { s.latchFrame 17 arg with
        response := s.response.load (statusByte s :: 0xFE ::
          ((if st.geometry.sectorSize = 256 then unpack256 e else e).toList ++ [0x00, 0x00])),
        decoderState := .awaitingCommand }) ∧
    (∀ e, cacheLookup s.cache arg = none → st.read s.draws arg = some e →
      exec (.readSingleBlock arg crc) s = .next { s.latchFrame 17 arg with
        draws := s.draws + 1,
        response := s.response.load (statusByte s :: 0xFE ::
          ((if st.geometry.sectorSize = 256 then unpack256 e else e).toList ++ [0x00, 0x00])),
        decoderState := .awaitingCommand }) ∧
    (cacheLookup s.cache arg = none → st.read s.draws arg = none →
      exec (.readSingleBlock arg crc) s = .next { s.latchFrame 17 arg with
        draws := s.draws + 1, events := s.events ++ [.ioError .read arg], decoderState := .awaitingCommand })

/-- WRITE_BLOCK (41 R158). -/
def Obligations.WriteBlockResult : Prop :=
  ∀ (arg : BitVec 32) (crc : Byte) (s : State) (st : Store), s.boundStore = some st →
    exec (.writeBlock arg crc) s = .next { s.latchFrame 24 arg with
      response := s.response.load [statusByte s], decoderState := .awaitingDataToken }

/-- APP_SEND_OP_COND (41 R159, R151). -/
def Obligations.AppSendOpCondResult : Prop :=
  ∀ (arg : BitVec 32) (crc : Byte) (s : State) (st : Store), s.boundStore = some st →
    exec (.appSendOpCond arg crc) s = .next { s.latchFrame 41 arg with
      idle := false, response := s.response.load [0x00], decoderState := .awaitingCommand }

/-- APP_CMD (41 R160). -/
def Obligations.AppCmdResult : Prop :=
  ∀ (arg : BitVec 32) (crc : Byte) (s : State) (st : Store), s.boundStore = some st →
    exec (.appCmd arg crc) s = .next { s.latchFrame 55 arg with
      response := s.response.load [statusByte s], decoderState := .awaitingCommand }

/-- READ_OCR (41 R161; 30_encoding R79). -/
def Obligations.ReadOcrResult : Prop :=
  ∀ (arg : BitVec 32) (crc : Byte) (s : State) (st : Store), s.boundStore = some st →
    exec (.readOcr arg crc) s = .next { s.latchFrame 58 arg with
      response := s.response.load [statusByte s, 0xC0, 0x00, 0x00, 0x00], decoderState := .awaitingCommand }

/-- DATA_TOKEN (40 R127): it opens the data phase, on a bound and on an unbound card. -/
def Obligations.DataTokenResult : Prop :=
  ∀ s : State, s.decoderState = .awaitingDataToken →
    exec .dataToken s = .next { s with dataCount := 0, decoderState := .awaitingData }

/-- With no store bound every command frame leaves only its latched bytes and the decoder's transition: no response,
no flag, no event (41 R150; 40 R122, R132). -/
def Obligations.UnboundFramesAreNoOps : Prop :=
  ∀ (c : Command) (arg : BitVec 32) (crc : Byte) (s : State), s.boundStore = none →
    exec (c.instr arg crc) s = .next { s.latchFrame (cmdIndex c) arg with
      decoderState := if c = .writeBlock then .awaitingDataToken else .awaitingCommand }

/-- The frame of all ten instructions: what each leaves unchanged. Only the nine commands write the latched command
and argument and the response; only GO_IDLE_STATE and APP_SEND_OP_COND write `idle`; only DATA_TOKEN writes the byte
count; only READ_SINGLE_BLOCK adds an event (one, an IoError) or calls the store; none writes the cache, the capacity,
the send buffer, a mark, or any byte of the store. -/
def Obligations.InstructionFrame : Prop :=
  ∀ (i : Instr) (s t : State), exec i s = .next t →
    t.boundStore = s.boundStore ∧
    (∀ st st', s.boundStore = some st → t.boundStore = some st' →
      ∀ a, Memory.readByte st'.data a = Memory.readByte st.data a) ∧
    t.capacityField = s.capacityField ∧ t.cache = s.cache ∧ t.sendBuffer = s.sendBuffer ∧
    t.faultMark = s.faultMark ∧ t.refusedMark = s.refusedMark ∧ t.params = s.params ∧
    t.hostCalls = s.hostCalls ∧ t.results = s.results ∧ t.released = s.released ∧ t.destroyed = s.destroyed ∧
    (i ≠ .dataToken → t.dataCount = s.dataCount) ∧
    (i = .dataToken → t.currentCommand = s.currentCommand ∧ t.argument = s.argument ∧ t.response = s.response) ∧
    ((∀ arg crc, i ≠ .goIdleState arg crc ∧ i ≠ .appSendOpCond arg crc) → t.idle = s.idle) ∧
    ((∀ arg crc, i ≠ .readSingleBlock arg crc) → t.events = s.events ∧ t.draws = s.draws) ∧
    (∀ arg crc, i = .readSingleBlock arg crc →
      t.events = s.events ∨ (t.events = s.events ++ [.ioError .read arg] ∧ t.response = s.response))

/-! ### Whole-machine rules about the flag and the response -/

/-- Every command behaves the same whether the card is idle or ready, except for the status byte it returns
(60 R271). -/
def Obligations.CommandsIgnoreIdle : Prop :=
  ∀ (c : Command) (arg : BitVec 32) (crc : Byte) (s t u : State),
    exec (c.instr arg crc) { s with idle := true } = .next t →
    exec (c.instr arg crc) { s with idle := false } = .next u →
    ({ t with idle := s.idle, response := s.response } : State) = { u with idle := s.idle, response := s.response } ∧
    t.response.endPos = u.response.endPos ∧ t.response.cursor = u.response.cursor ∧
    t.response.unread.tail = u.response.unread.tail

/-- Only the CRC byte of a GO_IDLE_STATE or an APP_SEND_OP_COND frame, on a bound card, changes `idle` (60 R271;
70 R301: no lifecycle event does). -/
def Obligations.IdleChangesOnlyByItsCommands : Prop :=
  ∀ s t : State, step s = .next t → t.idle ≠ s.idle →
    s.boundStore.isSome = true ∧ s.decoderState = .awaitingCrc ∧ (∃ b rest, s.hostCalls = .write b :: rest) ∧
    ((s.currentCommand = 0 ∧ t.idle = true) ∨ (s.currentCommand = 41 ∧ t.idle = false))

/-- APP_SEND_OP_COND leaves the same state with or without an APP_CMD frame before it (30_encoding R82). -/
def Obligations.AppCmdSetsNoMode : Prop :=
  ∀ (arg arg' : BitVec 32) (crc crc' : Byte) (s u : State), exec (.appCmd arg crc) s = .next u →
    exec (.appSendOpCond arg' crc') u = exec (.appSendOpCond arg' crc') s

/-- A written byte changes the response only where a dispatch or a data-phase execution builds one, on a bound card
(40 R134, 41 R150). -/
def Obligations.WritesBuildResponsesOnlyAtFrameEnd : Prop :=
  ∀ (s t : State) (b : Byte) (rest : List HostCall), s.hostCalls = .write b :: rest → step s = .next t →
    t.response ≠ s.response →
    (s.decoderState = .awaitingCrc ∨ s.decoderState = .awaitingDataCrc2) ∧ s.boundStore.isSome = true ∧
      t.response.cursor = 0

/-- The decoder's transitions do not depend on the bound store (40 R132): two Cards that agree on the decoder state,
the latched command and the byte count go to the same decoder state on the same byte. -/
def Obligations.DecoderIgnoresTheStore : Prop :=
  ∀ (s s' t t' : State) (b : Byte) (rest rest' : List HostCall), s.hostCalls = .write b :: rest →
    s'.hostCalls = .write b :: rest' → s.decoderState = s'.decoderState → s.currentCommand = s'.currentCommand →
    s.dataCount = s'.dataCount → step s = .next t → step s' = .next t' → t.decoderState = t'.decoderState

/-! ### The store, the cache and the data phase -/

/-- What a store answers to a read (44 R242, R245): the reference store succeeds exactly below its number of sectors,
a drawn one as its draw says; on success the physical bytes are the store's data. -/
def Obligations.StoreReadAnswers : Prop :=
  ∀ (st : Store) (n : Nat) (i : SectorIndex),
    (st.kind = .reference → ((st.read n i).isSome = true ↔
      i.toNat < st.geometry.cylinders * st.geometry.heads * st.geometry.sectorsPerTrack)) ∧
    (st.kind = .drawn → ((st.read n i).isSome = true ↔ Config.storeReadFails n = false)) ∧
    (∀ e, st.read n i = some e → ∀ j (h : j < 512), (st.geometry.sectorSize = 256 → j < 256) →
      e[j] = Memory.readByte st.data (512 * i.toNat + j))

/-- What a store does with a write (44 R243, R245): which writes succeed, that a later successful read of the sector
answers the physical bytes written, and that no write, failed or not, changes a byte of another sector. -/
def Obligations.StoreWriteAnswers : Prop :=
  ∀ (st : Store) (n : Nat) (i : SectorIndex) (b : Sector),
    (st.kind = .reference → ((st.write n i b).1 = true ↔
      i.toNat < st.geometry.cylinders * st.geometry.heads * st.geometry.sectorsPerTrack)) ∧
    (st.kind = .drawn → ((st.write n i b).1 = true ↔ Config.storeWriteFails n = false)) ∧
    ((st.write n i b).1 = true → ∀ m e, (st.write n i b).2.read m i = some e →
      ∀ j (h : j < 512), (st.geometry.sectorSize = 256 → j < 256) → e[j] = b[j]) ∧
    (st.kind = .reference → (st.write n i b).1 = false → (st.write n i b).2 = st) ∧
    (st.write n i b).2.geometry = st.geometry ∧ (st.write n i b).2.kind = st.kind ∧
    (∀ k m j, k ≠ i → j < 512 → Memory.readByte (st.write n i b).2.data (512 * k.toNat + j) =
      Memory.readByte st.data (512 * k.toNat + j) ∧ ((st.write n i b).2.read m k).isSome = (st.read m k).isSome)

/-- Packing and unpacking of 256-byte sectors, byte by byte, and the round trip of the even bytes (42 R201, R203). -/
def Obligations.PackUnpackBytes : Prop :=
  ∀ (e d : Sector) (j : Nat) (h : j < 256),
    (unpack256 e)[2 * j] = e[j] ∧ (unpack256 e)[2 * j + 1] = 0xFF ∧
    (pack256 e d)[j] = d[2 * j] ∧ (pack256 e d)[256 + j] = e[256 + j] ∧
    (unpack256 (pack256 e d))[2 * j] = d[2 * j]

/-- Insert or overwrite, then look up (42 R204, R205); the keys stay unique. -/
def Obligations.CachePutThenLookup : Prop :=
  ∀ (c : List (SectorIndex × Sector)) (i j : SectorIndex) (e : Sector),
    cacheLookup (cachePut c i e) j = (if j = i then some e else cacheLookup c j) ∧
    (cacheWf c = true → cacheWf (cachePut c i e) = true)

/-- A whole data phase (30_encoding R72; 40 R127 to R130; 42 R210): the token, 512 data bytes and two bytes in the
place of the CRC put the block into the cache at the latched index, packed for a store of 256-byte sectors, and build
the acknowledgment. -/
def Obligations.WholeDataPhase : Prop :=
  ∀ (s : State) (st : Store) (p : Sector) (c1 c2 : Byte) (rest : List HostCall), s.CanStep →
    s.decoderState = .awaitingDataToken → s.currentCommand = 24 → s.boundStore = some st →
    s.hostCalls = (0xFE :: (p.toList ++ [c1, c2])).map .write ++ rest → ∃ c,
      runSteps 515 s = .next { s with
        hostCalls := rest, decoderState := .awaitingCommand, sendBuffer := p, dataCount := 512, cache := c,
        response := s.response.load [0x05, 0x05] } ∧
      cacheLookup c (arg32 s) = some (if st.geometry.sectorSize = 256 then
          pack256 ((cacheLookup s.cache (arg32 s)).getD (Vector.replicate 512 0)) p else p) ∧
      ∀ i, i ≠ arg32 s → cacheLookup c i = cacheLookup s.cache i

/-- Write and read back (20_memory R49, 42 R206): after WRITE_BLOCK of a block and its data phase, READ_SINGLE_BLOCK of
the same index answers that block, and the store is never called. A store of 256-byte sectors keeps its even-indexed
bytes only, and 0xFF is read for the others (R201, R203). -/
def Obligations.WriteThenReadBack : Prop :=
  ∀ (s : State) (st : Store) (i : SectorIndex) (p : Sector) (rest : List HostCall), s.CanStep →
    s.decoderState = .awaitingCommand → s.boundStore = some st →
    s.hostCalls = callsWriteBlk i p ++ (callsCommand .readSingleBlock i ++ rest) → ∃ (t : State) (q : Sector),
      (∀ j (h : j < 512), q[j] = if st.geometry.sectorSize = 256 ∧ j % 2 = 1 then (0xFF : Byte) else p[j]) ∧
      runSteps 527 s = .next t ∧ t.hostCalls = rest ∧ t.decoderState = .awaitingCommand ∧
      t.response.unread = statusByte s :: 0xFE :: (q.toList ++ [0x00, 0x00]) ∧
      t.draws = s.draws ∧ t.boundStore = s.boundStore ∧ t.events = s.events ∧ t.idle = s.idle

/-- Only a data-phase execution adds or changes a cache entry; only the host's insert, eject, commit and destruction
remove one (42 R211). -/
def Obligations.CacheChangesOnlyThere : Prop :=
  ∀ s t : State, step s = .next t → t.cache ≠ s.cache → ∃ c rest, s.hostCalls = c :: rest ∧
    ((∃ b, c = .write b ∧ s.decoderState = .awaitingDataCrc2 ∧ s.currentCommand = 24 ∧
        s.boundStore.isSome = true ∧
        ∀ i, (cacheLookup s.cache i).isSome = true → (cacheLookup t.cache i).isSome = true) ∨
      (∃ o, c = .insert o ∧ t.cache = []) ∨ ((c = .eject ∨ c = .destroy) ∧ t.cache = []) ∨
      (c = .commit ∧ s.params.commitClears = true ∧ ∀ p ∈ t.cache, p ∈ s.cache))

/-- No written byte, no read and no select touches the bound store or its data: store writes happen only in a commit
or an eject (44 R243, 42 R208; 70 R316). -/
def Obligations.StoreChangesOnlyByHostCalls : Prop :=
  ∀ s t : State, step s = .next t → t.boundStore ≠ s.boundStore → ∃ c rest, s.hostCalls = c :: rest ∧
    (c = .commit ∨ c = .eject ∨ c = .destroy ∨ ∃ o, c = .insert o)

/-! ### Insert -/

/-- A store that passes validation is bound, with its capacity code (43 R221 to R224). -/
def Obligations.InsertBindsAUsableStore : Prop :=
  ∀ (s : State) (st : Store) (rest : List HostCall) (total : Nat), s.CanStep → s.boundStore = none →
    s.hostCalls = .insert (.opened st) :: rest →
    total = st.geometry.cylinders * st.geometry.heads * st.geometry.sectorsPerTrack →
    st.geometry.sectorSize ∈ s.params.acceptedSectorSizes → total % 1024 = 0 → total ≠ 0 → ∃ cap : BitVec 16,
      cap.toNat = min (total / 1024 - 1) 65375 ∧
      step s = .next { s with hostCalls := rest, boundStore := some st, capacityField := cap, cache := [],
                              results := s.results ++ [.ok] }

/-- What is rejected, in the order of the checks, and what that leaves: the error reported and returned, the card
unbound (43 R221, R224; 60 R262, R268; the order is the spec's decision D27). Which stores are recorded as released is
the model's (log entry 6); that a store whose geometry query fails leaves no record is log entry 13 (DEDUCED). -/
def Obligations.InsertRejectsInOrder : Prop :=
  ∀ (s : State) (o : OpenResult) (rest : List HostCall), s.CanStep → s.boundStore = none →
    s.hostCalls = .insert o :: rest →
    (o = .openFailed →
      step s = .next { s with
        hostCalls := rest, results := s.results ++ [.mediaError],
        events := s.events ++ [.mediaError .openFailed] }) ∧
    (o = .geometryFailed →
      step s = .next { s with
        hostCalls := rest, results := s.results ++ [.mediaError],
        events := s.events ++ [.mediaError .geometryFailed] }) ∧
    (∀ st, o = .opened st → st.geometry.sectorSize ∉ s.params.acceptedSectorSizes →
      step s = .next { s with
        hostCalls := rest, results := s.results ++ [.mediaError], released := st :: s.released,
        events := s.events ++ [.mediaError (.unsupportedSectorSize st.geometry.sectorSize)] }) ∧
    (∀ st, o = .opened st → st.geometry.sectorSize ∈ s.params.acceptedSectorSizes →
      st.geometry.totalSectors % 1024 ≠ 0 →
      step s = .next { s with
        hostCalls := rest, results := s.results ++ [.mediaError], released := st :: s.released,
        events := s.events ++ [.mediaError (.notMultipleOf1024 st.geometry.totalSectors)] })

/-- A store of zero sectors sets the refused mark, and the refused state has no further step (43 R221; 60 R266). -/
def Obligations.ZeroSectorsAreRefused : Prop :=
  ∀ (s : State) (st : Store) (rest : List HostCall), s.CanStep → s.boundStore = none →
    s.hostCalls = .insert (.opened st) :: rest → st.geometry.sectorSize ∈ s.params.acceptedSectorSizes →
    st.geometry.totalSectors = 0 → ∃ t, step s = .next t ∧ t.refusedMark = true ∧ t.boundStore = none ∧
      step t = .refused .zeroCapacity

/-- An insert on a bound card is an eject and then an insert (43 R224, D23). -/
def Obligations.InsertOnABoundCardEjectsFirst : Prop :=
  ∀ (s : State) (st : Store) (o : OpenResult) (rest : List HostCall), s.CanStep → s.boundStore = some st →
    step { s with hostCalls := .insert o :: rest } =
      runSteps 2 { s with hostCalls := .eject :: .insert o :: rest }

/-! ### The other entry points -/

/-- `select()` (44 R231). -/
def Obligations.SelectResult : Prop :=
  ∀ (s : State) (rest : List HostCall), s.CanStep → s.hostCalls = .select :: rest →
    step s = .next { s with hostCalls := rest, decoderState := .awaitingCommand,
                            response := { s.response with cursor := 0, endPos := 0 } }

/-- `read()` (44 R233), where the response keeps the bound of 10_state R29 (every run does: `StepKeepsTheInvariant`). -/
def Obligations.ReadResult : Prop :=
  ∀ (s : State) (rest : List HostCall), s.CanStep → s.hostCalls = .read :: rest →
    (∀ h : s.response.cursor < 516, s.response.cursor < s.response.endPos →
      step s = .next { s with hostCalls := rest, results := s.results ++ [.byte s.response.buf[s.response.cursor]],
                              response := { s.response with cursor := s.response.cursor + 1 } }) ∧
    (¬ s.response.cursor < s.response.endPos →
      step s = .next { s with hostCalls := rest, results := s.results ++ [.byte 0xFF] })

/-- Any number of reads in a row: the unread bytes in order, then 0xFF for ever, and the cursor never past the end
(44 R233, 20_memory R46). -/
def Obligations.ReadsDrainTheResponse : Prop :=
  ∀ (n : Nat) (s : State) (rest : List HostCall), s.CanStep → s.hostCalls = callsRead n ++ rest →
    s.response.cursor ≤ s.response.endPos → s.response.endPos ≤ 516 →
    runSteps n s = .next { s with
      hostCalls := rest,
      results := s.results ++
        ((s.response.unread ++ List.replicate n 0xFF).take n).map HostResult.byte,
      response := { s.response with cursor := min (s.response.cursor + n) s.response.endPos } }

/-- `eject()` (44 R235): unbound, only the implicit reset; bound, the store is released, the cache is empty, and only
where the policy persists can the store, the event log and the draws have changed: then they are what the commit of the
cache leaves. `idle` stays. That the capacity field stays is log entry 16 (DEDUCED: R235 does not write it, 10_state R34
calls it unspecified there), and the record of released stores is the model's (log entry 6). -/
def Obligations.EjectResult : Prop :=
  ∀ (s : State) (rest : List HostCall), s.CanStep → s.hostCalls = .eject :: rest →
    (s.boundStore = none →
      step s = .next { s with hostCalls := rest, decoderState := .awaitingCommand,
                              response := { s.response with cursor := 0, endPos := 0 } }) ∧
    (∀ st, s.boundStore = some st → ∃ st' es n,
      step s = .next { s with hostCalls := rest, decoderState := .awaitingCommand,
                              response := { s.response with cursor := 0, endPos := 0 }, boundStore := none,
                              cache := [], released := st' :: s.released, events := s.events ++ es, draws := n } ∧
      (s.params.ejectPersists = false → st' = st ∧ es = [] ∧ n = s.draws) ∧
      (s.params.ejectPersists = true → st' = (commitRun st s).store ∧
        es = (commitRun st s).failed.map (.ioError .write) ∧ st.Persisted st' s.cache (commitRun st s).failed))

/-- `is_dirty()` (44 R236, 42 R207). -/
def Obligations.IsDirtyResult : Prop :=
  ∀ (s : State) (rest : List HostCall), s.CanStep → s.hostCalls = .isDirty :: rest →
    ∃ v, (v = true ↔ s.cache ≠ []) ∧
      step s = .next { s with hostCalls := rest, results := s.results ++ [.dirty v] }

/-- `commit()` on any store, of any sector size and with any draws (44 R237, R243; 42 R208): every entry is attempted,
the bytes of each one that does not fail are in the store and nothing else of the store changes (`Store.Persisted`),
each failure is reported and its index is a key of the cache, the result is `Ok` exactly when nothing failed, and the
cache stays, or keeps the failed entries only. -/
def Obligations.CommitResult : Prop :=
  ∀ (s : State) (rest : List HostCall), s.CanStep → s.hostCalls = .commit :: rest →
    (s.boundStore = none → step s = .next { s with hostCalls := rest, results := s.results ++ [.ok] }) ∧
    (∀ st, s.boundStore = some st → ∃ (st' : Store) (n : Nat) (failed : List SectorIndex),
      st.Persisted st' s.cache failed ∧
      step s = .next { s with
        hostCalls := rest, boundStore := some st', draws := n,
        events := s.events ++ failed.map (.ioError .write),
        cache := if s.params.commitClears then s.cache.filter (fun p => failed.contains p.1) else s.cache,
        results := s.results ++ [if failed = [] then .ok else .ioError] })

/-- A commit to the reference store whose cached indices are all in range (42 R208; 44 R237, R243, R245): it succeeds,
every physical byte of a cached sector is then in the store, and every other byte of the store is as before, whatever
order the writes were drawn in. The cache stays, or is empty where the commit clears it. -/
def Obligations.CommitPersistsOnReferenceStore : Prop :=
  ∀ (s : State) (st : Store) (rest : List HostCall), s.CanStep → s.hostCalls = .commit :: rest →
    s.boundStore = some st → st.kind = .reference → cacheWf s.cache = true →
    (∀ p ∈ s.cache, p.1.toNat < st.geometry.totalSectors) → ∃ (st' : Store) (n : Nat),
      step s = .next { s with hostCalls := rest, boundStore := some st', draws := n,
                              cache := if s.params.commitClears then [] else s.cache,
                              results := s.results ++ [.ok] } ∧
      (∀ i e, cacheLookup s.cache i = some e → ∀ j (h : j < 512), (st.geometry.sectorSize = 256 → j < 256) →
        Memory.readByte st'.data (512 * i.toNat + j) = e[j]) ∧
      (∀ a, (∀ p ∈ s.cache, ¬ (512 * p.1.toNat ≤ a ∧
          a < 512 * p.1.toNat + (if st.geometry.sectorSize = 256 then 256 else 512))) →
        Memory.readByte st'.data a = Memory.readByte st.data a)

/-- The order of a commit's writes is some order of the cache's entries: none is lost and none written twice
(42 R208). -/
def Obligations.CommitOrderIsAPermutation : Prop :=
  ∀ (n : Nat) (c : List (SectorIndex × Sector)), (drawnOrder n c).Perm c

/-- Destruction is an eject, after which the Card has no further step (70 R301). -/
def Obligations.DestructionIsAFinalEject : Prop :=
  ∀ (s : State) (rest : List HostCall), s.CanStep → s.hostCalls = .destroy :: rest → ∃ t,
    step { s with hostCalls := .eject :: rest } = .next t ∧ step s = .next { t with destroyed := true } ∧
    step { t with destroyed := true } = .refused .cardDestroyed

/-! ### Reset, invariants and the event log -/

/-- What the spec says a new Card holds (10_state R34, 70 R300); `idle` is the draw of log entry 1. That a Card with no
call pending steps to itself is the model's choice (log entry 4). The capacity, the latched frame, the send buffer and
the buffer's bytes are the model's choice (log entry 2) and are not stated. -/
def Obligations.ResetLeavesTheSpecsValues : Prop :=
  State.reset.boundStore = none ∧ State.reset.decoderState = .awaitingCommand ∧
  State.reset.response.cursor = 0 ∧ State.reset.response.endPos = 0 ∧ State.reset.cache = [] ∧
  State.reset.events = [] ∧ State.reset.faultMark = false ∧ State.reset.refusedMark = false ∧
  State.reset.idle = Config.idleAtCreation ∧ step State.reset = .next State.reset

/-- The invariant holds of a new Card. -/
def Obligations.ResetMeetsTheInvariant : Prop := State.reset.Inv

/-- Every step keeps the invariant, from every state that meets it: the response bounds (10_state R29), the byte count
(R25), the latched command (R23), WRITE_BLOCK in every data-phase state (40 R131), unique cache keys (R30), an empty
cache on an unbound card (42 R207), a usable store with its capacity code (43 R221 to R223), canonical store data, and
no fault mark (60 R265). -/
def Obligations.StepKeepsTheInvariant : Prop :=
  ∀ s t : State, s.Inv → step s = .next t → t.Inv

/-- Every order of calls has a defined result (44 R246): a state that meets the invariant and can step does, whatever
the next call is. -/
def Obligations.EveryCallHasAResult : Prop :=
  ∀ s : State, s.Inv → s.CanStep → ∃ t, step s = .next t

/-- The event log is append-only (60 R260). -/
def Obligations.EventLogIsAppendOnly : Prop :=
  ∀ s t : State, step s = .next t → ∃ es, t.events = s.events ++ es

/-- At most one error a call, except in a commit and in the persisting eject, which insert and destruction contain
too (60 R268). -/
def Obligations.AtMostOneErrorPerCall : Prop :=
  ∀ s t : State, step s = .next t → t.events.length ≤ s.events.length + 1 ∨ ∃ c rest, s.hostCalls = c :: rest ∧
    (c = .commit ∨ (s.params.ejectPersists = true ∧ (c = .eject ∨ c = .destroy ∨ ∃ o, c = .insert o)))

/-- The fault mark is never cleared and is set by a LogicError and nothing else, a refused state has no further step,
and no step changes the model's named arguments (60 R265, R266; 00_scope R11). -/
def Obligations.MarksAreStickyAndParamsConstant : Prop :=
  ∀ s : State, (s.refusedMark = true → step s = .refused .zeroCapacity) ∧ ∀ t, step s = .next t →
    (s.faultMark = true → t.faultMark = true) ∧ t.params = s.params ∧
    (s.faultMark = false → t.faultMark = true → t.events = s.events ++ [.logicError s.currentCommand])

/-! ### The response -/

/-- `Respond` (10_state R28), for every response it can build: the host reads exactly these bytes, from the start. That
the buffer keeps its bytes past the end is the model's choice (log entry 17). -/
def Obligations.RespondLoadsTheBytes : Prop :=
  ∀ (p : Response) (r : List Byte), 1 ≤ r.length → r.length ≤ 516 →
    (p.load r).cursor = 0 ∧ (p.load r).endPos = r.length ∧ (p.load r).unread = r ∧
    ∀ j (h : j < 516), (p.load r).buf[j] = if h' : j < r.length then r[j] else p.buf[j]
end

