-- ==== Sys2Proof/Laws/State.lean ====
section
/-! SUPPORT. One lemma for each field of State and each update: what the update leaves in that field. -/

namespace Sys2Proof.Machine

section setDecoder
variable (s : State) (d : DecoderState)
@[simp] theorem State.setDecoder_boundStore : (s.setDecoder d).boundStore = s.boundStore := rfl
@[simp] theorem State.setDecoder_capacityField : (s.setDecoder d).capacityField = s.capacityField := rfl
@[simp] theorem State.setDecoder_idle : (s.setDecoder d).idle = s.idle := rfl
@[simp] theorem State.setDecoder_decoderState : (s.setDecoder d).decoderState = d := rfl
@[simp] theorem State.setDecoder_currentCommand : (s.setDecoder d).currentCommand = s.currentCommand := rfl
@[simp] theorem State.setDecoder_argument : (s.setDecoder d).argument = s.argument := rfl
@[simp] theorem State.setDecoder_sendBuffer : (s.setDecoder d).sendBuffer = s.sendBuffer := rfl
@[simp] theorem State.setDecoder_dataCount : (s.setDecoder d).dataCount = s.dataCount := rfl
@[simp] theorem State.setDecoder_response : (s.setDecoder d).response = s.response := rfl
@[simp] theorem State.setDecoder_cache : (s.setDecoder d).cache = s.cache := rfl
@[simp] theorem State.setDecoder_events : (s.setDecoder d).events = s.events := rfl
@[simp] theorem State.setDecoder_faultMark : (s.setDecoder d).faultMark = s.faultMark := rfl
@[simp] theorem State.setDecoder_refusedMark : (s.setDecoder d).refusedMark = s.refusedMark := rfl
@[simp] theorem State.setDecoder_params : (s.setDecoder d).params = s.params := rfl
@[simp] theorem State.setDecoder_draws : (s.setDecoder d).draws = s.draws := rfl
@[simp] theorem State.setDecoder_hostCalls : (s.setDecoder d).hostCalls = s.hostCalls := rfl
@[simp] theorem State.setDecoder_results : (s.setDecoder d).results = s.results := rfl
@[simp] theorem State.setDecoder_released : (s.setDecoder d).released = s.released := rfl
@[simp] theorem State.setDecoder_destroyed : (s.setDecoder d).destroyed = s.destroyed := rfl
end setDecoder

section setIdle
variable (s : State) (v : Bool)
@[simp] theorem State.setIdle_boundStore : (s.setIdle v).boundStore = s.boundStore := rfl
@[simp] theorem State.setIdle_capacityField : (s.setIdle v).capacityField = s.capacityField := rfl
@[simp] theorem State.setIdle_idle : (s.setIdle v).idle = v := rfl
@[simp] theorem State.setIdle_decoderState : (s.setIdle v).decoderState = s.decoderState := rfl
@[simp] theorem State.setIdle_currentCommand : (s.setIdle v).currentCommand = s.currentCommand := rfl
@[simp] theorem State.setIdle_argument : (s.setIdle v).argument = s.argument := rfl
@[simp] theorem State.setIdle_sendBuffer : (s.setIdle v).sendBuffer = s.sendBuffer := rfl
@[simp] theorem State.setIdle_dataCount : (s.setIdle v).dataCount = s.dataCount := rfl
@[simp] theorem State.setIdle_response : (s.setIdle v).response = s.response := rfl
@[simp] theorem State.setIdle_cache : (s.setIdle v).cache = s.cache := rfl
@[simp] theorem State.setIdle_events : (s.setIdle v).events = s.events := rfl
@[simp] theorem State.setIdle_faultMark : (s.setIdle v).faultMark = s.faultMark := rfl
@[simp] theorem State.setIdle_refusedMark : (s.setIdle v).refusedMark = s.refusedMark := rfl
@[simp] theorem State.setIdle_params : (s.setIdle v).params = s.params := rfl
@[simp] theorem State.setIdle_draws : (s.setIdle v).draws = s.draws := rfl
@[simp] theorem State.setIdle_hostCalls : (s.setIdle v).hostCalls = s.hostCalls := rfl
@[simp] theorem State.setIdle_results : (s.setIdle v).results = s.results := rfl
@[simp] theorem State.setIdle_released : (s.setIdle v).released = s.released := rfl
@[simp] theorem State.setIdle_destroyed : (s.setIdle v).destroyed = s.destroyed := rfl
end setIdle

section setCurrent
variable (s : State) (idx : BitVec 6)
@[simp] theorem State.setCurrent_boundStore : (s.setCurrent idx).boundStore = s.boundStore := rfl
@[simp] theorem State.setCurrent_capacityField : (s.setCurrent idx).capacityField = s.capacityField := rfl
@[simp] theorem State.setCurrent_idle : (s.setCurrent idx).idle = s.idle := rfl
@[simp] theorem State.setCurrent_decoderState : (s.setCurrent idx).decoderState = s.decoderState := rfl
@[simp] theorem State.setCurrent_currentCommand : (s.setCurrent idx).currentCommand = idx := rfl
@[simp] theorem State.setCurrent_argument : (s.setCurrent idx).argument = s.argument := rfl
@[simp] theorem State.setCurrent_sendBuffer : (s.setCurrent idx).sendBuffer = s.sendBuffer := rfl
@[simp] theorem State.setCurrent_dataCount : (s.setCurrent idx).dataCount = s.dataCount := rfl
@[simp] theorem State.setCurrent_response : (s.setCurrent idx).response = s.response := rfl
@[simp] theorem State.setCurrent_cache : (s.setCurrent idx).cache = s.cache := rfl
@[simp] theorem State.setCurrent_events : (s.setCurrent idx).events = s.events := rfl
@[simp] theorem State.setCurrent_faultMark : (s.setCurrent idx).faultMark = s.faultMark := rfl
@[simp] theorem State.setCurrent_refusedMark : (s.setCurrent idx).refusedMark = s.refusedMark := rfl
@[simp] theorem State.setCurrent_params : (s.setCurrent idx).params = s.params := rfl
@[simp] theorem State.setCurrent_draws : (s.setCurrent idx).draws = s.draws := rfl
@[simp] theorem State.setCurrent_hostCalls : (s.setCurrent idx).hostCalls = s.hostCalls := rfl
@[simp] theorem State.setCurrent_results : (s.setCurrent idx).results = s.results := rfl
@[simp] theorem State.setCurrent_released : (s.setCurrent idx).released = s.released := rfl
@[simp] theorem State.setCurrent_destroyed : (s.setCurrent idx).destroyed = s.destroyed := rfl
end setCurrent

section setArgByte
variable (s : State) (k : Fin 4) (b : Byte)
@[simp] theorem State.setArgByte_boundStore : (s.setArgByte k b).boundStore = s.boundStore := rfl
@[simp] theorem State.setArgByte_capacityField : (s.setArgByte k b).capacityField = s.capacityField := rfl
@[simp] theorem State.setArgByte_idle : (s.setArgByte k b).idle = s.idle := rfl
@[simp] theorem State.setArgByte_decoderState : (s.setArgByte k b).decoderState = s.decoderState := rfl
@[simp] theorem State.setArgByte_currentCommand : (s.setArgByte k b).currentCommand = s.currentCommand := rfl
@[simp] theorem State.setArgByte_argument : (s.setArgByte k b).argument = s.argument.set k b := rfl
@[simp] theorem State.setArgByte_sendBuffer : (s.setArgByte k b).sendBuffer = s.sendBuffer := rfl
@[simp] theorem State.setArgByte_dataCount : (s.setArgByte k b).dataCount = s.dataCount := rfl
@[simp] theorem State.setArgByte_response : (s.setArgByte k b).response = s.response := rfl
@[simp] theorem State.setArgByte_cache : (s.setArgByte k b).cache = s.cache := rfl
@[simp] theorem State.setArgByte_events : (s.setArgByte k b).events = s.events := rfl
@[simp] theorem State.setArgByte_faultMark : (s.setArgByte k b).faultMark = s.faultMark := rfl
@[simp] theorem State.setArgByte_refusedMark : (s.setArgByte k b).refusedMark = s.refusedMark := rfl
@[simp] theorem State.setArgByte_params : (s.setArgByte k b).params = s.params := rfl
@[simp] theorem State.setArgByte_draws : (s.setArgByte k b).draws = s.draws := rfl
@[simp] theorem State.setArgByte_hostCalls : (s.setArgByte k b).hostCalls = s.hostCalls := rfl
@[simp] theorem State.setArgByte_results : (s.setArgByte k b).results = s.results := rfl
@[simp] theorem State.setArgByte_released : (s.setArgByte k b).released = s.released := rfl
@[simp] theorem State.setArgByte_destroyed : (s.setArgByte k b).destroyed = s.destroyed := rfl
end setArgByte

section latchFrame
variable (s : State) (idx : BitVec 6) (arg : BitVec 32)
@[simp] theorem State.latchFrame_boundStore : (s.latchFrame idx arg).boundStore = s.boundStore := rfl
@[simp] theorem State.latchFrame_capacityField : (s.latchFrame idx arg).capacityField = s.capacityField := rfl
@[simp] theorem State.latchFrame_idle : (s.latchFrame idx arg).idle = s.idle := rfl
@[simp] theorem State.latchFrame_decoderState : (s.latchFrame idx arg).decoderState = s.decoderState := rfl
@[simp] theorem State.latchFrame_currentCommand : (s.latchFrame idx arg).currentCommand = idx := rfl
@[simp] theorem State.latchFrame_argument : (s.latchFrame idx arg).argument = #v[argByte arg 0, argByte arg 1, argByte arg 2, argByte arg 3] := rfl
@[simp] theorem State.latchFrame_sendBuffer : (s.latchFrame idx arg).sendBuffer = s.sendBuffer := rfl
@[simp] theorem State.latchFrame_dataCount : (s.latchFrame idx arg).dataCount = s.dataCount := rfl
@[simp] theorem State.latchFrame_response : (s.latchFrame idx arg).response = s.response := rfl
@[simp] theorem State.latchFrame_cache : (s.latchFrame idx arg).cache = s.cache := rfl
@[simp] theorem State.latchFrame_events : (s.latchFrame idx arg).events = s.events := rfl
@[simp] theorem State.latchFrame_faultMark : (s.latchFrame idx arg).faultMark = s.faultMark := rfl
@[simp] theorem State.latchFrame_refusedMark : (s.latchFrame idx arg).refusedMark = s.refusedMark := rfl
@[simp] theorem State.latchFrame_params : (s.latchFrame idx arg).params = s.params := rfl
@[simp] theorem State.latchFrame_draws : (s.latchFrame idx arg).draws = s.draws := rfl
@[simp] theorem State.latchFrame_hostCalls : (s.latchFrame idx arg).hostCalls = s.hostCalls := rfl
@[simp] theorem State.latchFrame_results : (s.latchFrame idx arg).results = s.results := rfl
@[simp] theorem State.latchFrame_released : (s.latchFrame idx arg).released = s.released := rfl
@[simp] theorem State.latchFrame_destroyed : (s.latchFrame idx arg).destroyed = s.destroyed := rfl
end latchFrame

section setCount
variable (s : State) (n : Nat)
@[simp] theorem State.setCount_boundStore : (s.setCount n).boundStore = s.boundStore := rfl
@[simp] theorem State.setCount_capacityField : (s.setCount n).capacityField = s.capacityField := rfl
@[simp] theorem State.setCount_idle : (s.setCount n).idle = s.idle := rfl
@[simp] theorem State.setCount_decoderState : (s.setCount n).decoderState = s.decoderState := rfl
@[simp] theorem State.setCount_currentCommand : (s.setCount n).currentCommand = s.currentCommand := rfl
@[simp] theorem State.setCount_argument : (s.setCount n).argument = s.argument := rfl
@[simp] theorem State.setCount_sendBuffer : (s.setCount n).sendBuffer = s.sendBuffer := rfl
@[simp] theorem State.setCount_dataCount : (s.setCount n).dataCount = n := rfl
@[simp] theorem State.setCount_response : (s.setCount n).response = s.response := rfl
@[simp] theorem State.setCount_cache : (s.setCount n).cache = s.cache := rfl
@[simp] theorem State.setCount_events : (s.setCount n).events = s.events := rfl
@[simp] theorem State.setCount_faultMark : (s.setCount n).faultMark = s.faultMark := rfl
@[simp] theorem State.setCount_refusedMark : (s.setCount n).refusedMark = s.refusedMark := rfl
@[simp] theorem State.setCount_params : (s.setCount n).params = s.params := rfl
@[simp] theorem State.setCount_draws : (s.setCount n).draws = s.draws := rfl
@[simp] theorem State.setCount_hostCalls : (s.setCount n).hostCalls = s.hostCalls := rfl
@[simp] theorem State.setCount_results : (s.setCount n).results = s.results := rfl
@[simp] theorem State.setCount_released : (s.setCount n).released = s.released := rfl
@[simp] theorem State.setCount_destroyed : (s.setCount n).destroyed = s.destroyed := rfl
end setCount

section setSend
variable (s : State) (buf : Vector Byte 512)
@[simp] theorem State.setSend_boundStore : (s.setSend buf).boundStore = s.boundStore := rfl
@[simp] theorem State.setSend_capacityField : (s.setSend buf).capacityField = s.capacityField := rfl
@[simp] theorem State.setSend_idle : (s.setSend buf).idle = s.idle := rfl
@[simp] theorem State.setSend_decoderState : (s.setSend buf).decoderState = s.decoderState := rfl
@[simp] theorem State.setSend_currentCommand : (s.setSend buf).currentCommand = s.currentCommand := rfl
@[simp] theorem State.setSend_argument : (s.setSend buf).argument = s.argument := rfl
@[simp] theorem State.setSend_sendBuffer : (s.setSend buf).sendBuffer = buf := rfl
@[simp] theorem State.setSend_dataCount : (s.setSend buf).dataCount = s.dataCount := rfl
@[simp] theorem State.setSend_response : (s.setSend buf).response = s.response := rfl
@[simp] theorem State.setSend_cache : (s.setSend buf).cache = s.cache := rfl
@[simp] theorem State.setSend_events : (s.setSend buf).events = s.events := rfl
@[simp] theorem State.setSend_faultMark : (s.setSend buf).faultMark = s.faultMark := rfl
@[simp] theorem State.setSend_refusedMark : (s.setSend buf).refusedMark = s.refusedMark := rfl
@[simp] theorem State.setSend_params : (s.setSend buf).params = s.params := rfl
@[simp] theorem State.setSend_draws : (s.setSend buf).draws = s.draws := rfl
@[simp] theorem State.setSend_hostCalls : (s.setSend buf).hostCalls = s.hostCalls := rfl
@[simp] theorem State.setSend_results : (s.setSend buf).results = s.results := rfl
@[simp] theorem State.setSend_released : (s.setSend buf).released = s.released := rfl
@[simp] theorem State.setSend_destroyed : (s.setSend buf).destroyed = s.destroyed := rfl
end setSend

section respond
variable (s : State) (r : List Byte)
@[simp] theorem State.respond_boundStore : (s.respond r).boundStore = s.boundStore := rfl
@[simp] theorem State.respond_capacityField : (s.respond r).capacityField = s.capacityField := rfl
@[simp] theorem State.respond_idle : (s.respond r).idle = s.idle := rfl
@[simp] theorem State.respond_decoderState : (s.respond r).decoderState = s.decoderState := rfl
@[simp] theorem State.respond_currentCommand : (s.respond r).currentCommand = s.currentCommand := rfl
@[simp] theorem State.respond_argument : (s.respond r).argument = s.argument := rfl
@[simp] theorem State.respond_sendBuffer : (s.respond r).sendBuffer = s.sendBuffer := rfl
@[simp] theorem State.respond_dataCount : (s.respond r).dataCount = s.dataCount := rfl
@[simp] theorem State.respond_response : (s.respond r).response = s.response.load r := rfl
@[simp] theorem State.respond_cache : (s.respond r).cache = s.cache := rfl
@[simp] theorem State.respond_events : (s.respond r).events = s.events := rfl
@[simp] theorem State.respond_faultMark : (s.respond r).faultMark = s.faultMark := rfl
@[simp] theorem State.respond_refusedMark : (s.respond r).refusedMark = s.refusedMark := rfl
@[simp] theorem State.respond_params : (s.respond r).params = s.params := rfl
@[simp] theorem State.respond_draws : (s.respond r).draws = s.draws := rfl
@[simp] theorem State.respond_hostCalls : (s.respond r).hostCalls = s.hostCalls := rfl
@[simp] theorem State.respond_results : (s.respond r).results = s.results := rfl
@[simp] theorem State.respond_released : (s.respond r).released = s.released := rfl
@[simp] theorem State.respond_destroyed : (s.respond r).destroyed = s.destroyed := rfl
end respond

section clearResponse
variable (s : State)
@[simp] theorem State.clearResponse_boundStore : s.clearResponse.boundStore = s.boundStore := rfl
@[simp] theorem State.clearResponse_capacityField : s.clearResponse.capacityField = s.capacityField := rfl
@[simp] theorem State.clearResponse_idle : s.clearResponse.idle = s.idle := rfl
@[simp] theorem State.clearResponse_decoderState : s.clearResponse.decoderState = s.decoderState := rfl
@[simp] theorem State.clearResponse_currentCommand : s.clearResponse.currentCommand = s.currentCommand := rfl
@[simp] theorem State.clearResponse_argument : s.clearResponse.argument = s.argument := rfl
@[simp] theorem State.clearResponse_sendBuffer : s.clearResponse.sendBuffer = s.sendBuffer := rfl
@[simp] theorem State.clearResponse_dataCount : s.clearResponse.dataCount = s.dataCount := rfl
@[simp] theorem State.clearResponse_response : s.clearResponse.response = s.response.clear := rfl
@[simp] theorem State.clearResponse_cache : s.clearResponse.cache = s.cache := rfl
@[simp] theorem State.clearResponse_events : s.clearResponse.events = s.events := rfl
@[simp] theorem State.clearResponse_faultMark : s.clearResponse.faultMark = s.faultMark := rfl
@[simp] theorem State.clearResponse_refusedMark : s.clearResponse.refusedMark = s.refusedMark := rfl
@[simp] theorem State.clearResponse_params : s.clearResponse.params = s.params := rfl
@[simp] theorem State.clearResponse_draws : s.clearResponse.draws = s.draws := rfl
@[simp] theorem State.clearResponse_hostCalls : s.clearResponse.hostCalls = s.hostCalls := rfl
@[simp] theorem State.clearResponse_results : s.clearResponse.results = s.results := rfl
@[simp] theorem State.clearResponse_released : s.clearResponse.released = s.released := rfl
@[simp] theorem State.clearResponse_destroyed : s.clearResponse.destroyed = s.destroyed := rfl
end clearResponse

section setCursor
variable (s : State) (n : Nat)
@[simp] theorem State.setCursor_boundStore : (s.setCursor n).boundStore = s.boundStore := rfl
@[simp] theorem State.setCursor_capacityField : (s.setCursor n).capacityField = s.capacityField := rfl
@[simp] theorem State.setCursor_idle : (s.setCursor n).idle = s.idle := rfl
@[simp] theorem State.setCursor_decoderState : (s.setCursor n).decoderState = s.decoderState := rfl
@[simp] theorem State.setCursor_currentCommand : (s.setCursor n).currentCommand = s.currentCommand := rfl
@[simp] theorem State.setCursor_argument : (s.setCursor n).argument = s.argument := rfl
@[simp] theorem State.setCursor_sendBuffer : (s.setCursor n).sendBuffer = s.sendBuffer := rfl
@[simp] theorem State.setCursor_dataCount : (s.setCursor n).dataCount = s.dataCount := rfl
@[simp] theorem State.setCursor_response : (s.setCursor n).response = { s.response with cursor := n } := rfl
@[simp] theorem State.setCursor_cache : (s.setCursor n).cache = s.cache := rfl
@[simp] theorem State.setCursor_events : (s.setCursor n).events = s.events := rfl
@[simp] theorem State.setCursor_faultMark : (s.setCursor n).faultMark = s.faultMark := rfl
@[simp] theorem State.setCursor_refusedMark : (s.setCursor n).refusedMark = s.refusedMark := rfl
@[simp] theorem State.setCursor_params : (s.setCursor n).params = s.params := rfl
@[simp] theorem State.setCursor_draws : (s.setCursor n).draws = s.draws := rfl
@[simp] theorem State.setCursor_hostCalls : (s.setCursor n).hostCalls = s.hostCalls := rfl
@[simp] theorem State.setCursor_results : (s.setCursor n).results = s.results := rfl
@[simp] theorem State.setCursor_released : (s.setCursor n).released = s.released := rfl
@[simp] theorem State.setCursor_destroyed : (s.setCursor n).destroyed = s.destroyed := rfl
end setCursor

section setCache
variable (s : State) (c : List (SectorIndex × Sector))
@[simp] theorem State.setCache_boundStore : (s.setCache c).boundStore = s.boundStore := rfl
@[simp] theorem State.setCache_capacityField : (s.setCache c).capacityField = s.capacityField := rfl
@[simp] theorem State.setCache_idle : (s.setCache c).idle = s.idle := rfl
@[simp] theorem State.setCache_decoderState : (s.setCache c).decoderState = s.decoderState := rfl
@[simp] theorem State.setCache_currentCommand : (s.setCache c).currentCommand = s.currentCommand := rfl
@[simp] theorem State.setCache_argument : (s.setCache c).argument = s.argument := rfl
@[simp] theorem State.setCache_sendBuffer : (s.setCache c).sendBuffer = s.sendBuffer := rfl
@[simp] theorem State.setCache_dataCount : (s.setCache c).dataCount = s.dataCount := rfl
@[simp] theorem State.setCache_response : (s.setCache c).response = s.response := rfl
@[simp] theorem State.setCache_cache : (s.setCache c).cache = c := rfl
@[simp] theorem State.setCache_events : (s.setCache c).events = s.events := rfl
@[simp] theorem State.setCache_faultMark : (s.setCache c).faultMark = s.faultMark := rfl
@[simp] theorem State.setCache_refusedMark : (s.setCache c).refusedMark = s.refusedMark := rfl
@[simp] theorem State.setCache_params : (s.setCache c).params = s.params := rfl
@[simp] theorem State.setCache_draws : (s.setCache c).draws = s.draws := rfl
@[simp] theorem State.setCache_hostCalls : (s.setCache c).hostCalls = s.hostCalls := rfl
@[simp] theorem State.setCache_results : (s.setCache c).results = s.results := rfl
@[simp] theorem State.setCache_released : (s.setCache c).released = s.released := rfl
@[simp] theorem State.setCache_destroyed : (s.setCache c).destroyed = s.destroyed := rfl
end setCache

section setStore
variable (s : State) (o : Option Store)
@[simp] theorem State.setStore_boundStore : (s.setStore o).boundStore = o := rfl
@[simp] theorem State.setStore_capacityField : (s.setStore o).capacityField = s.capacityField := rfl
@[simp] theorem State.setStore_idle : (s.setStore o).idle = s.idle := rfl
@[simp] theorem State.setStore_decoderState : (s.setStore o).decoderState = s.decoderState := rfl
@[simp] theorem State.setStore_currentCommand : (s.setStore o).currentCommand = s.currentCommand := rfl
@[simp] theorem State.setStore_argument : (s.setStore o).argument = s.argument := rfl
@[simp] theorem State.setStore_sendBuffer : (s.setStore o).sendBuffer = s.sendBuffer := rfl
@[simp] theorem State.setStore_dataCount : (s.setStore o).dataCount = s.dataCount := rfl
@[simp] theorem State.setStore_response : (s.setStore o).response = s.response := rfl
@[simp] theorem State.setStore_cache : (s.setStore o).cache = s.cache := rfl
@[simp] theorem State.setStore_events : (s.setStore o).events = s.events := rfl
@[simp] theorem State.setStore_faultMark : (s.setStore o).faultMark = s.faultMark := rfl
@[simp] theorem State.setStore_refusedMark : (s.setStore o).refusedMark = s.refusedMark := rfl
@[simp] theorem State.setStore_params : (s.setStore o).params = s.params := rfl
@[simp] theorem State.setStore_draws : (s.setStore o).draws = s.draws := rfl
@[simp] theorem State.setStore_hostCalls : (s.setStore o).hostCalls = s.hostCalls := rfl
@[simp] theorem State.setStore_results : (s.setStore o).results = s.results := rfl
@[simp] theorem State.setStore_released : (s.setStore o).released = s.released := rfl
@[simp] theorem State.setStore_destroyed : (s.setStore o).destroyed = s.destroyed := rfl
end setStore

section setCapacity
variable (s : State) (v : BitVec 16)
@[simp] theorem State.setCapacity_boundStore : (s.setCapacity v).boundStore = s.boundStore := rfl
@[simp] theorem State.setCapacity_capacityField : (s.setCapacity v).capacityField = v := rfl
@[simp] theorem State.setCapacity_idle : (s.setCapacity v).idle = s.idle := rfl
@[simp] theorem State.setCapacity_decoderState : (s.setCapacity v).decoderState = s.decoderState := rfl
@[simp] theorem State.setCapacity_currentCommand : (s.setCapacity v).currentCommand = s.currentCommand := rfl
@[simp] theorem State.setCapacity_argument : (s.setCapacity v).argument = s.argument := rfl
@[simp] theorem State.setCapacity_sendBuffer : (s.setCapacity v).sendBuffer = s.sendBuffer := rfl
@[simp] theorem State.setCapacity_dataCount : (s.setCapacity v).dataCount = s.dataCount := rfl
@[simp] theorem State.setCapacity_response : (s.setCapacity v).response = s.response := rfl
@[simp] theorem State.setCapacity_cache : (s.setCapacity v).cache = s.cache := rfl
@[simp] theorem State.setCapacity_events : (s.setCapacity v).events = s.events := rfl
@[simp] theorem State.setCapacity_faultMark : (s.setCapacity v).faultMark = s.faultMark := rfl
@[simp] theorem State.setCapacity_refusedMark : (s.setCapacity v).refusedMark = s.refusedMark := rfl
@[simp] theorem State.setCapacity_params : (s.setCapacity v).params = s.params := rfl
@[simp] theorem State.setCapacity_draws : (s.setCapacity v).draws = s.draws := rfl
@[simp] theorem State.setCapacity_hostCalls : (s.setCapacity v).hostCalls = s.hostCalls := rfl
@[simp] theorem State.setCapacity_results : (s.setCapacity v).results = s.results := rfl
@[simp] theorem State.setCapacity_released : (s.setCapacity v).released = s.released := rfl
@[simp] theorem State.setCapacity_destroyed : (s.setCapacity v).destroyed = s.destroyed := rfl
end setCapacity

section release
variable (s : State) (st : Store)
@[simp] theorem State.release_boundStore : (s.release st).boundStore = s.boundStore := rfl
@[simp] theorem State.release_capacityField : (s.release st).capacityField = s.capacityField := rfl
@[simp] theorem State.release_idle : (s.release st).idle = s.idle := rfl
@[simp] theorem State.release_decoderState : (s.release st).decoderState = s.decoderState := rfl
@[simp] theorem State.release_currentCommand : (s.release st).currentCommand = s.currentCommand := rfl
@[simp] theorem State.release_argument : (s.release st).argument = s.argument := rfl
@[simp] theorem State.release_sendBuffer : (s.release st).sendBuffer = s.sendBuffer := rfl
@[simp] theorem State.release_dataCount : (s.release st).dataCount = s.dataCount := rfl
@[simp] theorem State.release_response : (s.release st).response = s.response := rfl
@[simp] theorem State.release_cache : (s.release st).cache = s.cache := rfl
@[simp] theorem State.release_events : (s.release st).events = s.events := rfl
@[simp] theorem State.release_faultMark : (s.release st).faultMark = s.faultMark := rfl
@[simp] theorem State.release_refusedMark : (s.release st).refusedMark = s.refusedMark := rfl
@[simp] theorem State.release_params : (s.release st).params = s.params := rfl
@[simp] theorem State.release_draws : (s.release st).draws = s.draws := rfl
@[simp] theorem State.release_hostCalls : (s.release st).hostCalls = s.hostCalls := rfl
@[simp] theorem State.release_results : (s.release st).results = s.results := rfl
@[simp] theorem State.release_released : (s.release st).released = st :: s.released := rfl
@[simp] theorem State.release_destroyed : (s.release st).destroyed = s.destroyed := rfl
end release

section setDraws
variable (s : State) (n : Nat)
@[simp] theorem State.setDraws_boundStore : (s.setDraws n).boundStore = s.boundStore := rfl
@[simp] theorem State.setDraws_capacityField : (s.setDraws n).capacityField = s.capacityField := rfl
@[simp] theorem State.setDraws_idle : (s.setDraws n).idle = s.idle := rfl
@[simp] theorem State.setDraws_decoderState : (s.setDraws n).decoderState = s.decoderState := rfl
@[simp] theorem State.setDraws_currentCommand : (s.setDraws n).currentCommand = s.currentCommand := rfl
@[simp] theorem State.setDraws_argument : (s.setDraws n).argument = s.argument := rfl
@[simp] theorem State.setDraws_sendBuffer : (s.setDraws n).sendBuffer = s.sendBuffer := rfl
@[simp] theorem State.setDraws_dataCount : (s.setDraws n).dataCount = s.dataCount := rfl
@[simp] theorem State.setDraws_response : (s.setDraws n).response = s.response := rfl
@[simp] theorem State.setDraws_cache : (s.setDraws n).cache = s.cache := rfl
@[simp] theorem State.setDraws_events : (s.setDraws n).events = s.events := rfl
@[simp] theorem State.setDraws_faultMark : (s.setDraws n).faultMark = s.faultMark := rfl
@[simp] theorem State.setDraws_refusedMark : (s.setDraws n).refusedMark = s.refusedMark := rfl
@[simp] theorem State.setDraws_params : (s.setDraws n).params = s.params := rfl
@[simp] theorem State.setDraws_draws : (s.setDraws n).draws = n := rfl
@[simp] theorem State.setDraws_hostCalls : (s.setDraws n).hostCalls = s.hostCalls := rfl
@[simp] theorem State.setDraws_results : (s.setDraws n).results = s.results := rfl
@[simp] theorem State.setDraws_released : (s.setDraws n).released = s.released := rfl
@[simp] theorem State.setDraws_destroyed : (s.setDraws n).destroyed = s.destroyed := rfl
end setDraws

section setCalls
variable (s : State) (l : List HostCall)
@[simp] theorem State.setCalls_boundStore : (s.setCalls l).boundStore = s.boundStore := rfl
@[simp] theorem State.setCalls_capacityField : (s.setCalls l).capacityField = s.capacityField := rfl
@[simp] theorem State.setCalls_idle : (s.setCalls l).idle = s.idle := rfl
@[simp] theorem State.setCalls_decoderState : (s.setCalls l).decoderState = s.decoderState := rfl
@[simp] theorem State.setCalls_currentCommand : (s.setCalls l).currentCommand = s.currentCommand := rfl
@[simp] theorem State.setCalls_argument : (s.setCalls l).argument = s.argument := rfl
@[simp] theorem State.setCalls_sendBuffer : (s.setCalls l).sendBuffer = s.sendBuffer := rfl
@[simp] theorem State.setCalls_dataCount : (s.setCalls l).dataCount = s.dataCount := rfl
@[simp] theorem State.setCalls_response : (s.setCalls l).response = s.response := rfl
@[simp] theorem State.setCalls_cache : (s.setCalls l).cache = s.cache := rfl
@[simp] theorem State.setCalls_events : (s.setCalls l).events = s.events := rfl
@[simp] theorem State.setCalls_faultMark : (s.setCalls l).faultMark = s.faultMark := rfl
@[simp] theorem State.setCalls_refusedMark : (s.setCalls l).refusedMark = s.refusedMark := rfl
@[simp] theorem State.setCalls_params : (s.setCalls l).params = s.params := rfl
@[simp] theorem State.setCalls_draws : (s.setCalls l).draws = s.draws := rfl
@[simp] theorem State.setCalls_hostCalls : (s.setCalls l).hostCalls = l := rfl
@[simp] theorem State.setCalls_results : (s.setCalls l).results = s.results := rfl
@[simp] theorem State.setCalls_released : (s.setCalls l).released = s.released := rfl
@[simp] theorem State.setCalls_destroyed : (s.setCalls l).destroyed = s.destroyed := rfl
end setCalls

section ret
variable (s : State) (r : HostResult)
@[simp] theorem State.ret_boundStore : (s.ret r).boundStore = s.boundStore := rfl
@[simp] theorem State.ret_capacityField : (s.ret r).capacityField = s.capacityField := rfl
@[simp] theorem State.ret_idle : (s.ret r).idle = s.idle := rfl
@[simp] theorem State.ret_decoderState : (s.ret r).decoderState = s.decoderState := rfl
@[simp] theorem State.ret_currentCommand : (s.ret r).currentCommand = s.currentCommand := rfl
@[simp] theorem State.ret_argument : (s.ret r).argument = s.argument := rfl
@[simp] theorem State.ret_sendBuffer : (s.ret r).sendBuffer = s.sendBuffer := rfl
@[simp] theorem State.ret_dataCount : (s.ret r).dataCount = s.dataCount := rfl
@[simp] theorem State.ret_response : (s.ret r).response = s.response := rfl
@[simp] theorem State.ret_cache : (s.ret r).cache = s.cache := rfl
@[simp] theorem State.ret_events : (s.ret r).events = s.events := rfl
@[simp] theorem State.ret_faultMark : (s.ret r).faultMark = s.faultMark := rfl
@[simp] theorem State.ret_refusedMark : (s.ret r).refusedMark = s.refusedMark := rfl
@[simp] theorem State.ret_params : (s.ret r).params = s.params := rfl
@[simp] theorem State.ret_draws : (s.ret r).draws = s.draws := rfl
@[simp] theorem State.ret_hostCalls : (s.ret r).hostCalls = s.hostCalls := rfl
@[simp] theorem State.ret_results : (s.ret r).results = s.results ++ [r] := rfl
@[simp] theorem State.ret_released : (s.ret r).released = s.released := rfl
@[simp] theorem State.ret_destroyed : (s.ret r).destroyed = s.destroyed := rfl
end ret

section markDestroyed
variable (s : State)
@[simp] theorem State.markDestroyed_boundStore : s.markDestroyed.boundStore = s.boundStore := rfl
@[simp] theorem State.markDestroyed_capacityField : s.markDestroyed.capacityField = s.capacityField := rfl
@[simp] theorem State.markDestroyed_idle : s.markDestroyed.idle = s.idle := rfl
@[simp] theorem State.markDestroyed_decoderState : s.markDestroyed.decoderState = s.decoderState := rfl
@[simp] theorem State.markDestroyed_currentCommand : s.markDestroyed.currentCommand = s.currentCommand := rfl
@[simp] theorem State.markDestroyed_argument : s.markDestroyed.argument = s.argument := rfl
@[simp] theorem State.markDestroyed_sendBuffer : s.markDestroyed.sendBuffer = s.sendBuffer := rfl
@[simp] theorem State.markDestroyed_dataCount : s.markDestroyed.dataCount = s.dataCount := rfl
@[simp] theorem State.markDestroyed_response : s.markDestroyed.response = s.response := rfl
@[simp] theorem State.markDestroyed_cache : s.markDestroyed.cache = s.cache := rfl
@[simp] theorem State.markDestroyed_events : s.markDestroyed.events = s.events := rfl
@[simp] theorem State.markDestroyed_faultMark : s.markDestroyed.faultMark = s.faultMark := rfl
@[simp] theorem State.markDestroyed_refusedMark : s.markDestroyed.refusedMark = s.refusedMark := rfl
@[simp] theorem State.markDestroyed_params : s.markDestroyed.params = s.params := rfl
@[simp] theorem State.markDestroyed_draws : s.markDestroyed.draws = s.draws := rfl
@[simp] theorem State.markDestroyed_hostCalls : s.markDestroyed.hostCalls = s.hostCalls := rfl
@[simp] theorem State.markDestroyed_results : s.markDestroyed.results = s.results := rfl
@[simp] theorem State.markDestroyed_released : s.markDestroyed.released = s.released := rfl
@[simp] theorem State.markDestroyed_destroyed : s.markDestroyed.destroyed = true := rfl
end markDestroyed

section report
variable (s : State) (e : Event)
@[simp] theorem State.report_boundStore : (s.report e).boundStore = s.boundStore := rfl
@[simp] theorem State.report_capacityField : (s.report e).capacityField = s.capacityField := rfl
@[simp] theorem State.report_idle : (s.report e).idle = s.idle := rfl
@[simp] theorem State.report_decoderState : (s.report e).decoderState = s.decoderState := rfl
@[simp] theorem State.report_currentCommand : (s.report e).currentCommand = s.currentCommand := rfl
@[simp] theorem State.report_argument : (s.report e).argument = s.argument := rfl
@[simp] theorem State.report_sendBuffer : (s.report e).sendBuffer = s.sendBuffer := rfl
@[simp] theorem State.report_dataCount : (s.report e).dataCount = s.dataCount := rfl
@[simp] theorem State.report_response : (s.report e).response = s.response := rfl
@[simp] theorem State.report_cache : (s.report e).cache = s.cache := rfl
@[simp] theorem State.report_events : (s.report e).events = s.events ++ [e] := rfl
@[simp] theorem State.report_faultMark : (s.report e).faultMark = s.faultMark := rfl
@[simp] theorem State.report_refusedMark : (s.report e).refusedMark = s.refusedMark := rfl
@[simp] theorem State.report_params : (s.report e).params = s.params := rfl
@[simp] theorem State.report_draws : (s.report e).draws = s.draws := rfl
@[simp] theorem State.report_hostCalls : (s.report e).hostCalls = s.hostCalls := rfl
@[simp] theorem State.report_results : (s.report e).results = s.results := rfl
@[simp] theorem State.report_released : (s.report e).released = s.released := rfl
@[simp] theorem State.report_destroyed : (s.report e).destroyed = s.destroyed := rfl
end report

section reportAll
variable (s : State) (es : List Event)
@[simp] theorem State.reportAll_boundStore : (s.reportAll es).boundStore = s.boundStore := rfl
@[simp] theorem State.reportAll_capacityField : (s.reportAll es).capacityField = s.capacityField := rfl
@[simp] theorem State.reportAll_idle : (s.reportAll es).idle = s.idle := rfl
@[simp] theorem State.reportAll_decoderState : (s.reportAll es).decoderState = s.decoderState := rfl
@[simp] theorem State.reportAll_currentCommand : (s.reportAll es).currentCommand = s.currentCommand := rfl
@[simp] theorem State.reportAll_argument : (s.reportAll es).argument = s.argument := rfl
@[simp] theorem State.reportAll_sendBuffer : (s.reportAll es).sendBuffer = s.sendBuffer := rfl
@[simp] theorem State.reportAll_dataCount : (s.reportAll es).dataCount = s.dataCount := rfl
@[simp] theorem State.reportAll_response : (s.reportAll es).response = s.response := rfl
@[simp] theorem State.reportAll_cache : (s.reportAll es).cache = s.cache := rfl
@[simp] theorem State.reportAll_events : (s.reportAll es).events = s.events ++ es := rfl
@[simp] theorem State.reportAll_faultMark : (s.reportAll es).faultMark = s.faultMark := rfl
@[simp] theorem State.reportAll_refusedMark : (s.reportAll es).refusedMark = s.refusedMark := rfl
@[simp] theorem State.reportAll_params : (s.reportAll es).params = s.params := rfl
@[simp] theorem State.reportAll_draws : (s.reportAll es).draws = s.draws := rfl
@[simp] theorem State.reportAll_hostCalls : (s.reportAll es).hostCalls = s.hostCalls := rfl
@[simp] theorem State.reportAll_results : (s.reportAll es).results = s.results := rfl
@[simp] theorem State.reportAll_released : (s.reportAll es).released = s.released := rfl
@[simp] theorem State.reportAll_destroyed : (s.reportAll es).destroyed = s.destroyed := rfl
end reportAll

section markFault
variable (s : State)
@[simp] theorem State.markFault_boundStore : s.markFault.boundStore = s.boundStore := rfl
@[simp] theorem State.markFault_capacityField : s.markFault.capacityField = s.capacityField := rfl
@[simp] theorem State.markFault_idle : s.markFault.idle = s.idle := rfl
@[simp] theorem State.markFault_decoderState : s.markFault.decoderState = s.decoderState := rfl
@[simp] theorem State.markFault_currentCommand : s.markFault.currentCommand = s.currentCommand := rfl
@[simp] theorem State.markFault_argument : s.markFault.argument = s.argument := rfl
@[simp] theorem State.markFault_sendBuffer : s.markFault.sendBuffer = s.sendBuffer := rfl
@[simp] theorem State.markFault_dataCount : s.markFault.dataCount = s.dataCount := rfl
@[simp] theorem State.markFault_response : s.markFault.response = s.response := rfl
@[simp] theorem State.markFault_cache : s.markFault.cache = s.cache := rfl
@[simp] theorem State.markFault_events : s.markFault.events = s.events := rfl
@[simp] theorem State.markFault_faultMark : s.markFault.faultMark = true := rfl
@[simp] theorem State.markFault_refusedMark : s.markFault.refusedMark = s.refusedMark := rfl
@[simp] theorem State.markFault_params : s.markFault.params = s.params := rfl
@[simp] theorem State.markFault_draws : s.markFault.draws = s.draws := rfl
@[simp] theorem State.markFault_hostCalls : s.markFault.hostCalls = s.hostCalls := rfl
@[simp] theorem State.markFault_results : s.markFault.results = s.results := rfl
@[simp] theorem State.markFault_released : s.markFault.released = s.released := rfl
@[simp] theorem State.markFault_destroyed : s.markFault.destroyed = s.destroyed := rfl
end markFault

section markRefused
variable (s : State)
@[simp] theorem State.markRefused_boundStore : s.markRefused.boundStore = s.boundStore := rfl
@[simp] theorem State.markRefused_capacityField : s.markRefused.capacityField = s.capacityField := rfl
@[simp] theorem State.markRefused_idle : s.markRefused.idle = s.idle := rfl
@[simp] theorem State.markRefused_decoderState : s.markRefused.decoderState = s.decoderState := rfl
@[simp] theorem State.markRefused_currentCommand : s.markRefused.currentCommand = s.currentCommand := rfl
@[simp] theorem State.markRefused_argument : s.markRefused.argument = s.argument := rfl
@[simp] theorem State.markRefused_sendBuffer : s.markRefused.sendBuffer = s.sendBuffer := rfl
@[simp] theorem State.markRefused_dataCount : s.markRefused.dataCount = s.dataCount := rfl
@[simp] theorem State.markRefused_response : s.markRefused.response = s.response := rfl
@[simp] theorem State.markRefused_cache : s.markRefused.cache = s.cache := rfl
@[simp] theorem State.markRefused_events : s.markRefused.events = s.events := rfl
@[simp] theorem State.markRefused_faultMark : s.markRefused.faultMark = s.faultMark := rfl
@[simp] theorem State.markRefused_refusedMark : s.markRefused.refusedMark = true := rfl
@[simp] theorem State.markRefused_params : s.markRefused.params = s.params := rfl
@[simp] theorem State.markRefused_draws : s.markRefused.draws = s.draws := rfl
@[simp] theorem State.markRefused_hostCalls : s.markRefused.hostCalls = s.hostCalls := rfl
@[simp] theorem State.markRefused_results : s.markRefused.results = s.results := rfl
@[simp] theorem State.markRefused_released : s.markRefused.released = s.released := rfl
@[simp] theorem State.markRefused_destroyed : s.markRefused.destroyed = s.destroyed := rfl
end markRefused

end Sys2Proof.Machine
end

