-- ==== Sys2Proof/Laws/Decode.lean ====
section
/-! SUPPORT. The laws of the bit fields, of the command map, and what the decoder accepts. -/

namespace Sys2Proof

/-! ### Bit fields -/

/-- Concatenation as arithmetic. -/
theorem toNat_append_byte {w : Nat} (x : BitVec w) (y : Byte) : (x ++ y).toNat = x.toNat * 256 + y.toNat := by
  have h := Nat.shiftLeft_add_eq_or_of_lt y.isLt x.toNat
  rw [BitVec.toNat_append, ← h, Nat.shiftLeft_eq]

/-- The argument as a number. -/
theorem toNat_argOf (a b c d : Byte) :
    (argOf a b c d).toNat = ((a.toNat * 256 + b.toNat) * 256 + c.toNat) * 256 + d.toNat := by
  simp only [argOf, toNat_append_byte]

/-- An argument byte as a number. -/
theorem toNat_argByte (arg : BitVec 32) (k : Nat) : (argByte arg k).toNat = arg.toNat / 2 ^ (24 - 8 * k) % 256 := by
  rw [argByte, BitVec.extractLsb'_toNat, Nat.shiftRight_eq_div_pow]

/-- The four argument bytes make the argument again. -/
@[simp] theorem argOf_argByte (arg : BitVec 32) :
    argOf (argByte arg 0) (argByte arg 1) (argByte arg 2) (argByte arg 3) = arg := by
  apply BitVec.eq_of_toNat_eq
  have := arg.isLt
  simp only [toNat_argOf, toNat_argByte]
  norm_num
  omega

/-- Argument byte 0 is the first of four bytes. -/
@[simp] theorem argByte_argOf_0 (a b c d : Byte) : argByte (argOf a b c d) 0 = a := by
  apply BitVec.eq_of_toNat_eq
  have := a.isLt; have := b.isLt; have := c.isLt; have := d.isLt
  rw [toNat_argByte, toNat_argOf]; norm_num; omega

/-- Argument byte 1 is the second of four bytes. -/
@[simp] theorem argByte_argOf_1 (a b c d : Byte) : argByte (argOf a b c d) 1 = b := by
  apply BitVec.eq_of_toNat_eq
  have := a.isLt; have := b.isLt; have := c.isLt; have := d.isLt
  rw [toNat_argByte, toNat_argOf]; norm_num; omega

/-- Argument byte 2 is the third of four bytes. -/
@[simp] theorem argByte_argOf_2 (a b c d : Byte) : argByte (argOf a b c d) 2 = c := by
  apply BitVec.eq_of_toNat_eq
  have := a.isLt; have := b.isLt; have := c.isLt; have := d.isLt
  rw [toNat_argByte, toNat_argOf]; norm_num; omega

/-- Argument byte 3 is the last of four bytes. -/
@[simp] theorem argByte_argOf_3 (a b c d : Byte) : argByte (argOf a b c d) 3 = d := by
  apply BitVec.eq_of_toNat_eq
  have := a.isLt; have := b.isLt; have := c.isLt; have := d.isLt
  rw [toNat_argByte, toNat_argOf]; norm_num; omega

/-! ### Command bytes -/

/-- A command byte passes the framing check. -/
@[simp] theorem validFrameByte_commandByte (idx : BitVec 6) : validFrameByte (commandByte idx) = true := by
  revert idx; decide

/-- A command byte carries its index. -/
@[simp] theorem indexOf_commandByte (idx : BitVec 6) : indexOf (commandByte idx) = idx := by
  revert idx; decide

/-- A byte of valid framing is the command byte of its index. -/
theorem commandByte_indexOf {b : Byte} (h : validFrameByte b = true) : commandByte (indexOf b) = b := by
  revert b; decide

/-- The data token fails the framing check, so no byte starts an instruction in both slots. -/
@[simp] theorem validFrameByte_dataToken : validFrameByte dataTokenByte = false := by decide

/-! ### The command map -/

/-- The map finds each command by its index. -/
@[simp] theorem commandOf_cmdIndex (c : Command) : commandOf (cmdIndex c) = some c := by
  cases c <;> decide

/-- The map finds a command only by its own index. -/
theorem cmdIndex_of_commandOf {idx : BitVec 6} {c : Command} (h : commandOf idx = some c) : cmdIndex c = idx := by
  have := List.find?_some h
  simpa using this

/-- No two commands share an index. -/
theorem cmdIndex_injective {c d : Command} (h : cmdIndex c = cmdIndex d) : c = d := by
  have := congrArg commandOf h
  simpa using this

/-- The bytes of a frame, whatever its command. -/
theorem encode_instr (c : Command) (arg : BitVec 32) (crc : Byte) :
    encode (c.instr arg crc) = encodeFrame c arg crc := by
  cases c <;> rfl

/-- Every frame stands in the command slot. -/
@[simp] theorem slot_instr (c : Command) (arg : BitVec 32) (crc : Byte) : (c.instr arg crc).slot = .command := by
  cases c <;> rfl

/-! ### What the decoder reads -/

@[simp] theorem decode_command (bs : List Byte) : decode .command bs = decodeFrame bs := rfl
@[simp] theorem decode_dataToken (bs : List Byte) : decode .dataToken bs = decodeToken bs := rfl

/-- A supported command byte, four argument bytes and any CRC byte are a frame. -/
theorem decodeFrame_supported {idx : BitVec 6} {c : Command} (h : commandOf idx = some c) (a0 a1 a2 a3 crc : Byte)
    (rest : List Byte) : decodeFrame (commandByte idx :: a0 :: a1 :: a2 :: a3 :: crc :: rest) =
      .ok (c.instr (argOf a0 a1 a2 a3) crc, rest) := by
  simp [decodeFrame, h]

/-- What a frame that decodes looks like. -/
theorem decodeFrame_ok {bs rest : List Byte} {i : Instr} (h : decodeFrame bs = .ok (i, rest)) :
    ∃ c a0 a1 a2 a3 crc, bs = commandByte (cmdIndex c) :: a0 :: a1 :: a2 :: a3 :: crc :: rest ∧
      i = Command.instr c (argOf a0 a1 a2 a3) crc := by
  unfold decodeFrame at h
  split at h
  · cases h
  · split at h
    · rename_i b bs' hv
      split at h
      · cases h
      · rename_i c hc
        split at h
        · rename_i a0 a1 a2 a3 crc rest'
          injection h with h
          injection h with h1 h2
          subst h1 h2
          exact ⟨c, a0, a1, a2, a3, crc, by rw [cmdIndex_of_commandOf hc, commandByte_indexOf hv], rfl⟩
        · cases h
    · cases h

/-- What the data token's decoding looks like. -/
theorem decodeToken_ok {bs rest : List Byte} {i : Instr} (h : decodeToken bs = .ok (i, rest)) :
    bs = dataTokenByte :: rest ∧ i = .dataToken := by
  unfold decodeToken at h
  split at h
  · cases h
  · split at h
    · rename_i b bs' hb
      injection h with h
      injection h with h1 h2
      subst h1 h2 hb
      exact ⟨rfl, rfl⟩
    · cases h

end Sys2Proof
end

