-- ==== Sys2Proof/Laws/Memory.lean ====
section
/-! SUPPORT. The laws of store data: a read after a write, and that every memory operation keeps the canonical
form. -/

namespace Sys2Proof.Machine

/-- The canonical form as a proposition: rising addresses, no unlisted byte, all addresses in the space. -/
theorem Memory.wf_iff (m : Memory) : m.wf = true ↔
    m.Pairwise (fun c d => c.1 < d.1) ∧ ∀ c ∈ m, c.2 ≠ unlistedByte ∧ c.1 < addressSpace := by
  simp [Memory.wf]

/-- The empty memory is canonical. -/
@[simp] theorem Memory.wf_nil : Memory.wf [] = true := by decide

/-- An address that is not listed reads as the unlisted byte. -/
theorem Memory.readByte_of_not_mem {m : Memory} {x : Nat} (h : ∀ c ∈ m, c.1 ≠ x) :
    m.readByte x = unlistedByte := by
  induction m with
  | nil => rfl
  | cons c m ih =>
    obtain ⟨a, b⟩ := c
    have ha : a ≠ x := h (a, b) (by simp)
    simpa [Memory.readByte, ha] using ih (fun c hc => h c (List.mem_cons_of_mem _ hc))

/-- Reading through an append whose first part does not list the address. -/
theorem Memory.readByte_append_right {m n : Memory} {x : Nat} (h : ∀ c ∈ m, c.1 ≠ x) :
    Memory.readByte (m ++ n) x = Memory.readByte n x := by
  induction m with
  | nil => rfl
  | cons c m ih =>
    obtain ⟨a, b⟩ := c
    have ha : a ≠ x := h (a, b) (by simp)
    simpa [Memory.readByte, ha] using ih (fun c hc => h c (List.mem_cons_of_mem _ hc))

/-- Reading through an append whose second part does not list the address. -/
theorem Memory.readByte_append_left {m n : Memory} {x : Nat} (h : ∀ c ∈ n, c.1 ≠ x) :
    Memory.readByte (m ++ n) x = Memory.readByte m x := by
  induction m with
  | nil => exact Memory.readByte_of_not_mem h
  | cons c m ih => obtain ⟨a, b⟩ := c; simp [Memory.readByte, ih]

/-- Filtering by the address keeps the bytes of the addresses kept. -/
theorem Memory.readByte_filter {m : Memory} {p : Nat → Bool} {x : Nat} (h : p x = true) :
    Memory.readByte (m.filter (fun c => p c.1)) x = Memory.readByte m x := by
  induction m with
  | nil => rfl
  | cons c m ih =>
    obtain ⟨a, b⟩ := c
    by_cases ha : a = x
    · subst ha; simp [Memory.readByte, h]
    · by_cases hp : p a = true <;> simp [Memory.readByte, hp, ha, ih]

/-- What a block lists: addresses from the base on, in range, never the unlisted byte. -/
theorem Memory.mem_block {base : Nat} {bytes : List Byte} {c : Host.Cell} (h : c ∈ Memory.block base bytes) :
    base ≤ c.1 ∧ c.1 < base + bytes.length ∧ c.2 ≠ unlistedByte := by
  induction bytes generalizing base with
  | nil => simp [Memory.block] at h
  | cons b bs ih =>
    have tail : c ∈ Memory.block (base + 1) bs →
        base ≤ c.1 ∧ c.1 < base + (b :: bs).length ∧ c.2 ≠ unlistedByte := fun hc => by
      obtain ⟨h1, h2, h3⟩ := ih hc
      exact ⟨by omega, by simp only [List.length_cons]; omega, h3⟩
    by_cases hb : b = unlistedByte
    · rw [Memory.block, if_pos hb] at h
      exact tail h
    · rw [Memory.block, if_neg hb] at h
      rcases List.mem_cons.mp h with rfl | hc
      · exact ⟨le_refl _, by simp, hb⟩
      · exact tail hc

/-- A block's addresses rise strictly. -/
theorem Memory.block_pairwise (base : Nat) (bytes : List Byte) :
    (Memory.block base bytes).Pairwise (fun c d => c.1 < d.1) := by
  induction bytes generalizing base with
  | nil => simp [Memory.block]
  | cons b bs ih =>
    by_cases hb : b = unlistedByte
    · rw [Memory.block, if_pos hb]; exact ih _
    · rw [Memory.block, if_neg hb]
      exact List.Pairwise.cons (fun d hd => by have := Memory.mem_block hd; simp only; omega) (ih _)

/-- Reading inside a block. -/
theorem Memory.readByte_block {base : Nat} {bytes : List Byte} {j : Nat} (h : j < bytes.length) :
    Memory.readByte (Memory.block base bytes) (base + j) = bytes[j] := by
  induction bytes generalizing base j with
  | nil => simp at h
  | cons b bs ih =>
    cases j with
    | zero =>
      by_cases hb : b = unlistedByte
      · rw [Memory.block, if_pos hb, Memory.readByte_of_not_mem]
        · simp [hb]
        · intro c hc; have := Memory.mem_block hc; omega
      · rw [Memory.block, if_neg hb]; simp [Memory.readByte]
    | succ j =>
      have step := ih (base := base + 1) (j := j) (by simpa using h)
      have e : base + 1 + j = base + (j + 1) := by omega
      rw [e] at step
      by_cases hb : b = unlistedByte
      · rw [Memory.block, if_pos hb, step]; simp
      · rw [Memory.block, if_neg hb, Memory.readByte, if_neg (by omega), step]; simp

/-- Read after write, inside: the byte written. -/
theorem Memory.readByte_writeBlock_inside (m : Memory) (base : Nat) (bytes : List Byte) {j : Nat}
    (h : j < bytes.length) : Memory.readByte (m.writeBlock base bytes) (base + j) = bytes[j] := by
  rw [Memory.writeBlock, Memory.readByte_append_right, Memory.readByte_append_left, Memory.readByte_block h]
  · intro c hc; have := (List.mem_filter.mp hc).2; simp only [decide_eq_true_eq] at this; omega
  · intro c hc; have := (List.mem_filter.mp hc).2; simp only [decide_eq_true_eq] at this; omega

/-- Read after write, outside: the byte read before. -/
theorem Memory.readByte_writeBlock_outside (m : Memory) (base : Nat) (bytes : List Byte) {x : Nat}
    (h : x < base ∨ base + bytes.length ≤ x) : Memory.readByte (m.writeBlock base bytes) x = m.readByte x := by
  have hb : ∀ c ∈ Memory.block base bytes, c.1 ≠ x := fun c hc => by have := Memory.mem_block hc; omega
  rw [Memory.writeBlock]
  rcases h with h | h
  · rw [Memory.readByte_append_left,
      Memory.readByte_filter (p := fun a => decide (a < base)) (by simpa using h)]
    intro c hc
    rcases List.mem_append.mp hc with hc | hc
    · exact hb c hc
    · have := (List.mem_filter.mp hc).2; simp only [decide_eq_true_eq] at this; omega
  · rw [Memory.readByte_append_right, Memory.readByte_append_right hb,
      Memory.readByte_filter (p := fun a => decide (base + bytes.length ≤ a)) (by simpa using h)]
    intro c hc
    have := (List.mem_filter.mp hc).2; simp only [decide_eq_true_eq] at this; omega

/-- A write inside the address space keeps the canonical form. -/
theorem Memory.writeBlock_wf {m : Memory} (hm : m.wf = true) {base : Nat} {bytes : List Byte}
    (h : base + bytes.length ≤ addressSpace) : (m.writeBlock base bytes).wf = true := by
  rw [Memory.wf_iff] at hm ⊢
  obtain ⟨hp, hall⟩ := hm
  refine ⟨?_, ?_⟩
  · rw [Memory.writeBlock, List.pairwise_append, List.pairwise_append]
    refine ⟨hp.filter _, ⟨Memory.block_pairwise _ _, hp.filter _, ?_⟩, ?_⟩
    · intro c hc d hd
      have h1 := Memory.mem_block hc
      have h2 := (List.mem_filter.mp hd).2
      simp only [decide_eq_true_eq] at h2; omega
    · intro c hc d hd
      have h1 := (List.mem_filter.mp hc).2
      simp only [decide_eq_true_eq] at h1
      rcases List.mem_append.mp hd with hd | hd
      · have := Memory.mem_block hd; omega
      · have h2 := (List.mem_filter.mp hd).2
        simp only [decide_eq_true_eq] at h2; omega
  · intro c hc
    rw [Memory.writeBlock, List.mem_append, List.mem_append] at hc
    rcases hc with hc | hc | hc
    · exact hall c (List.mem_filter.mp hc).1
    · have := Memory.mem_block hc; exact ⟨this.2.2, by omega⟩
    · exact hall c (List.mem_filter.mp hc).1

/-! ### Sectors of a store -/

/-- A physical sector has 256 or 512 bytes. -/
theorem Store.physicalBytes_le (st : Store) : st.physicalBytes ≤ 512 := by
  unfold Store.physicalBytes; split <;> omega

/-- A sector lies inside the address space. -/
theorem sectorBase_le (i : SectorIndex) : sectorBase i + 512 ≤ addressSpace := by
  have := i.isLt; simp only [sectorBase, addressSpace]; omega

/-- Replacing a sector's bytes keeps the data canonical. -/
theorem Store.putBytes_wf {st : Store} (h : st.data.wf = true) (i : SectorIndex) (bytes : List Byte) :
    (st.putBytes i bytes).data.wf = true := by
  refine Memory.writeBlock_wf h ?_
  have h1 := sectorBase_le i
  have h2 := st.physicalBytes_le
  simp only [List.length_take]; omega

/-- What replacing a sector's bytes does to a byte: the new one inside the physical sector, the old one elsewhere. -/
theorem Store.readByte_putBytes (st : Store) (i : SectorIndex) {bytes : List Byte} (hl : bytes.length = 512) (x : Nat) :
    Memory.readByte (st.putBytes i bytes).data x =
      if h : sectorBase i ≤ x ∧ x < sectorBase i + st.physicalBytes then
        bytes[x - sectorBase i]'(by have := st.physicalBytes_le; omega)
      else Memory.readByte st.data x := by
  have hp := st.physicalBytes_le
  have hlen : (bytes.take st.physicalBytes).length = st.physicalBytes := by simp only [List.length_take]; omega
  split
  · rename_i h
    have e := Memory.readByte_writeBlock_inside st.data (sectorBase i) (bytes.take st.physicalBytes)
      (j := x - sectorBase i) (by omega)
    rw [Nat.add_sub_cancel' h.1] at e
    refine e.trans ?_
    simp
  · exact Memory.readByte_writeBlock_outside _ _ _ (by omega)

/-- A store write changes neither the geometry nor the kind of the store. -/
theorem Store.write_geometry (st : Store) (n : Nat) (i : SectorIndex) (b : Sector) :
    (st.write n i b).2.geometry = st.geometry ∧ (st.write n i b).2.kind = st.kind := by
  unfold Store.write
  split <;> split <;> simp [Store.putBytes]

/-- Everything a store write can do (44 R243, R245): it succeeds and replaces the sector's physical bytes, the reference
store refuses it and stays, or a draw fails it and any bytes take their place. -/
theorem Store.write_cases (st : Store) (n : Nat) (i : SectorIndex) (b : Sector) :
    (((st.kind = .reference ∧ i.toNat < st.geometry.totalSectors) ∨
        (st.kind = .drawn ∧ Config.storeWriteFails n = false)) ∧
      st.write n i b = (true, st.putBytes i b.toList)) ∨
    (st.kind = .reference ∧ ¬ i.toNat < st.geometry.totalSectors ∧ st.write n i b = (false, st)) ∨
    (st.kind = .drawn ∧ Config.storeWriteFails n = true ∧
      st.write n i b = (false, st.putBytes i (failedSector n))) := by
  cases hk : st.kind with
  | reference =>
    by_cases hi : i.toNat < st.geometry.totalSectors
    · exact .inl ⟨.inl ⟨rfl, hi⟩, by simp [Store.write, hk, hi]⟩
    · exact .inr (.inl ⟨rfl, hi, by simp [Store.write, hk, hi]⟩)
  | drawn =>
    cases hf : Config.storeWriteFails n with
    | false => exact .inl ⟨.inr ⟨rfl, rfl⟩, by simp [Store.write, hk, hf]⟩
    | true => exact .inr (.inr ⟨rfl, rfl, by simp [Store.write, hk, hf]⟩)

/-- What a failed write leaves is a whole sector. -/
@[simp] theorem failedSector_length (n : Nat) : (failedSector n).length = 512 := by
  rw [failedSector, List.length_map, List.length_range]

/-- A store write, successful or not, keeps the data canonical. -/
theorem Store.write_wf {st : Store} (h : st.data.wf = true) (n : Nat) (i : SectorIndex) (b : Sector) :
    (st.write n i b).2.data.wf = true := by
  unfold Store.write
  split <;> split <;> first | exact h | exact Store.putBytes_wf h i _

/-- Every store a state holds is canonical at reset: it holds none. -/
theorem reset_memory_wf : State.reset.boundStore = none ∧ ∀ st ∈ State.reset.released, st.data.wf = true :=
  ⟨rfl, fun _ h => absurd h (by simp [State.reset])⟩

end Sys2Proof.Machine
end

