-- ==== Sys2Proof/Laws/Ops.lean ====
section
/-! SUPPORT. For each shared operation, one lemma that says everything it can do. -/

namespace Sys2Proof.Machine

/-! ### The response -/

@[simp] theorem Response.load_cursor (p : Response) (r : List Byte) : (p.load r).cursor = 0 := rfl
@[simp] theorem Response.load_endPos (p : Response) (r : List Byte) : (p.load r).endPos = r.length := rfl
@[simp] theorem Response.clear_cursor (p : Response) : p.clear.cursor = 0 := rfl
@[simp] theorem Response.clear_endPos (p : Response) : p.clear.endPos = 0 := rfl
@[simp] theorem Response.clear_buf (p : Response) : p.clear.buf = p.buf := rfl

/-- The buffer after a load: the new bytes, then what stood past them (10_state R28). -/
theorem Response.load_toList (p : Response) {r : List Byte} (h : r.length ≤ 516) :
    (p.load r).buf.toList = r ++ p.buf.toList.drop r.length := by
  have : (p.load r).buf.toList = (r ++ p.buf.toList.drop r.length).take 516 := rfl
  rw [this, List.take_of_length_le]
  simp; omega

/-- The host can read exactly the bytes loaded. -/
@[simp] theorem Response.load_unread (p : Response) {r : List Byte} (h : r.length ≤ 516) :
    (p.load r).unread = r := by
  simp [Response.unread, Response.load_toList p h]

/-- An emptied response has nothing to read. -/
@[simp] theorem Response.clear_unread (p : Response) : p.clear.unread = [] := by
  simp [Response.unread]

/-! ### Operands of a latched frame -/

@[simp] theorem arg32_latchFrame (s : State) (idx : BitVec 6) (arg : BitVec 32) :
    arg32 (s.latchFrame idx arg) = arg := by
  simp [arg32]

@[simp] theorem ifCondEcho_latchFrame (s : State) (idx : BitVec 6) (arg : BitVec 32) :
    ifCondEcho (s.latchFrame idx arg) = 0x00000100 ||| (argByte arg 3).zeroExtend 32 := by
  simp [ifCondEcho]

/-- The big-endian bytes of the SEND_IF_COND echo (30_encoding R80). -/
theorem bytes32_ifCond (b : Byte) : bytes32 (0x00000100 ||| b.zeroExtend 32) = [0x00, 0x00, 0x01, b] := by
  have h : (0x00000100 : BitVec 32) ||| b.zeroExtend 32 = argOf 0x00 0x00 0x01 b := by
    revert b; decide
  rw [h, bytes32]; simp

/-! ### The status byte and the encoders -/

/-- The status byte depends on `idle` alone (10_state R26). -/
theorem statusByte_congr {s t : State} (h : t.idle = s.idle) : statusByte t = statusByte s := by
  rw [statusByte, statusByte, h]

@[simp] theorem statusByte_latchFrame (s : State) (idx : BitVec 6) (arg : BitVec 32) :
    statusByte (s.latchFrame idx arg) = statusByte s := rfl
@[simp] theorem statusByte_setDraws (s : State) (n : Nat) : statusByte (s.setDraws n) = statusByte s := rfl
@[simp] theorem statusByte_setIdle (s : State) (v : Bool) :
    statusByte (s.setIdle v) = if v then 0x01 else 0x00 := rfl

/-- The SEND_CSD payload (30_encoding R77). -/
theorem csdPayload_eq (c : BitVec 16) : csdPayload c = csdRegister c ++ List.replicate 496 0x00 := rfl

/-- The SEND_CID payload (30_encoding R78). -/
theorem cidPayload_eq : cidPayload = cidRegister ++ List.replicate 496 0x00 := by
  rw [cidPayload, registerPayload]
  have h : csdCidPayloadLen - cidRegister.length = 496 := by decide
  rw [h]

/-- The OCR value as bytes (30_encoding R79). -/
theorem bytes32_ocr : bytes32 ocrValue = [0xC0, 0x00, 0x00, 0x00] := by decide

/-! ### Dispatch and the end of a frame -/

theorem dispatch_unbound {s : State} (h : s.boundStore = none) (effect : Store → State → State) :
    dispatch effect s = s := by simp [dispatch, h]

theorem dispatch_bound {s : State} {st : Store} (h : s.boundStore = some st) (effect : Store → State → State) :
    dispatch effect s = effect st s := by simp [dispatch, h]

/-- A frame on an unbound card: the latch and the transition, no more. -/
theorem completeFrame_unbound {s : State} (h : s.boundStore = none) (c : Command) (arg : BitVec 32)
    (effect : Store → State → State) :
    completeFrame c arg effect s = .next ((s.latchFrame (cmdIndex c) arg).setDecoder (afterFrame c)) := by
  rw [completeFrame, dispatch_unbound (by simpa using h)]

/-- A frame on a bound card: the latch, the command's effect, the transition. -/
theorem completeFrame_bound {s : State} {st : Store} (h : s.boundStore = some st) (c : Command) (arg : BitVec 32)
    (effect : Store → State → State) :
    completeFrame c arg effect s =
      .next ((effect st (s.latchFrame (cmdIndex c) arg)).setDecoder (afterFrame c)) := by
  rw [completeFrame, dispatch_bound (by simpa using h)]

/-- The instruction the decoder reads from the latched frame (40 R122). -/
theorem runFrame_supported {s : State} {c : Command} (h : commandOf s.currentCommand = some c) (b : Byte) :
    runFrame b s = exec (c.instr (arg32 s) b) s := by
  rw [runFrame, decode, latchedFrame, decodeFrame_supported h]; rfl

/-- With no supported command latched the frame does not decode. -/
theorem runFrame_unsupported {s : State} (h : commandOf s.currentCommand = none) (b : Byte) :
    runFrame b s = .fault .undecodableFrame := by
  simp [runFrame, decode, latchedFrame, decodeFrame, h]

/-! ### Sector reads and store writes -/

/-- Everything a sector read can do (42 R200): a hit changes nothing; a miss advances the draw counter. -/
theorem sectorRead_cases (index : SectorIndex) (st : Store) (s : State) :
    (∃ e, cacheLookup s.cache index = some e ∧ sectorRead index st s = (some (logicalSector st e), s)) ∨
    (cacheLookup s.cache index = none ∧
      sectorRead index st s = ((st.read s.draws index).map (logicalSector st), s.setDraws (s.draws + 1))) := by
  unfold sectorRead
  cases h : cacheLookup s.cache index with
  | none => exact .inr ⟨rfl, rfl⟩
  | some e => exact .inl ⟨e, rfl, rfl⟩

/-- A run of store writes keeps geometry and kind. -/
theorem writeAll_geometry (l : List (SectorIndex × Sector)) (st : Store) (n : Nat) :
    (writeAll st n l).store.geometry = st.geometry ∧ (writeAll st n l).store.kind = st.kind := by
  induction l generalizing st n with
  | nil => exact ⟨rfl, rfl⟩
  | cons p l ih =>
    obtain ⟨i, e⟩ := p
    have h := ih (st.write n i e).2 (n + 1)
    have g := st.write_geometry n i e
    simp only [writeAll]
    split <;> simp [h.1, h.2, g.1, g.2]

/-- A run of store writes keeps the data canonical. -/
theorem writeAll_wf (l : List (SectorIndex × Sector)) {st : Store} (n : Nat) (h : st.data.wf = true) :
    (writeAll st n l).store.data.wf = true := by
  induction l generalizing st n with
  | nil => exact h
  | cons p l ih =>
    obtain ⟨i, e⟩ := p
    have h' := ih (n + 1) (Store.write_wf h n i e)
    simp only [writeAll]
    split <;> exact h'

/-- One entry placed at a drawn place: the same entries. -/
theorem placeDrawn_perm {α : Type} (n : Nat) (x : α) (l : List α) : (placeDrawn n x l).Perm (x :: l) := by
  cases l with
  | nil => exact List.Perm.refl _
  | cons y l =>
    refine List.perm_insertIdx x (y :: l) ?_
    have := Nat.mod_lt (Config.commitPosition n) (show 0 < l.length + 2 by omega)
    simp only [List.length_cons]; omega

/-! ### The decoder's byte transitions -/

/-- A data byte while the block is not complete (40 R128). -/
theorem acceptDataByte_next {s : State} (h : s.dataCount < 512) (b : Byte) :
    acceptDataByte b s = .next { s with
      sendBuffer := s.sendBuffer.set s.dataCount b h, dataCount := s.dataCount + 1,
      decoderState := if s.dataCount + 1 = 512 then .awaitingDataCrc1 else s.decoderState } := by
  by_cases hn : s.dataCount + 1 = 512
  · simp only [acceptDataByte, dif_pos h, if_pos hn]; rfl
  · simp only [acceptDataByte, dif_pos h, if_neg hn]; rfl

/-- Everything a data byte can do: the block grows by one byte, or it is already complete, which no run reaches. -/
theorem acceptDataByte_fault {s : State} (h : ¬ s.dataCount < 512) (b : Byte) :
    acceptDataByte b s = .fault .sendBufferOverrun := by
  rw [acceptDataByte, dif_neg h]

/-- The token byte runs the data token; any other byte is ignored (40 R127). -/
theorem awaitToken_eq (b : Byte) (s : State) :
    awaitToken b s = if b = dataTokenByte then exec .dataToken s else .next s := by
  by_cases h : b = dataTokenByte <;> simp [awaitToken, decode, decodeToken, h]

/-- Everything data-phase execution can do (42 R210). -/
theorem executeDataPhase_cases (s : State) :
    (s.currentCommand ≠ cmdIndex .writeBlock ∧
      executeDataPhase s = (s.report (.logicError s.currentCommand)).markFault) ∨
    (s.currentCommand = cmdIndex .writeBlock ∧ s.boundStore = none ∧ executeDataPhase s = s) ∨
    (s.currentCommand = cmdIndex .writeBlock ∧ ∃ st, s.boundStore = some st ∧
      executeDataPhase s = encDataAck (sectorWrite (arg32 s) s.sendBuffer st s)) := by
  by_cases h : s.currentCommand = cmdIndex .writeBlock
  · cases hb : s.boundStore with
    | none => exact .inr (.inl ⟨h, rfl, by simp [executeDataPhase, h, hb]⟩)
    | some st => exact .inr (.inr ⟨h, st, rfl, by simp [executeDataPhase, h, hb]⟩)
  · exact .inl ⟨h, by simp [executeDataPhase, h]⟩

/-! ### The transition each decoder state runs (40 R133) -/

theorem writeByte_command {s : State} (h : s.decoderState = .awaitingCommand) (b : Byte) :
    writeByte b s = .next (acceptCommandByte b s) := by simp [writeByte, h]

theorem writeByte_arg {s : State} {k : Fin 4} (h : s.decoderState = .awaitingArg k) (b : Byte) :
    writeByte b s = .next (acceptArgByte k b s) := by simp [writeByte, h]

theorem writeByte_crc {s : State} (h : s.decoderState = .awaitingCrc) (b : Byte) :
    writeByte b s = runFrame b s := by simp [writeByte, h]

theorem writeByte_token {s : State} (h : s.decoderState = .awaitingDataToken) (b : Byte) :
    writeByte b s = awaitToken b s := by simp [writeByte, h]

theorem writeByte_data {s : State} (h : s.decoderState = .awaitingData) (b : Byte) :
    writeByte b s = acceptDataByte b s := by simp [writeByte, h]

theorem writeByte_dataCrc1 {s : State} (h : s.decoderState = .awaitingDataCrc1) (b : Byte) :
    writeByte b s = .next (s.setDecoder .awaitingDataCrc2) := by simp [writeByte, h]

theorem writeByte_dataCrc2 {s : State} (h : s.decoderState = .awaitingDataCrc2) (b : Byte) :
    writeByte b s = .next ((executeDataPhase s).setDecoder .awaitingCommand) := by simp [writeByte, h]

/-- Everything a command byte can do (40 R120). -/
theorem acceptCommandByte_cases (b : Byte) (s : State) :
    (validFrameByte b = false ∧ acceptCommandByte b s = s) ∨
    (validFrameByte b = true ∧ commandOf (indexOf b) = none ∧
      acceptCommandByte b s = s.report (.protocolError (indexOf b))) ∨
    (validFrameByte b = true ∧ (∃ c, commandOf (indexOf b) = some c) ∧
      acceptCommandByte b s = (s.setCurrent (indexOf b)).setDecoder (.awaitingArg 0)) := by
  cases hv : validFrameByte b with
  | false => exact .inl ⟨rfl, by simp [acceptCommandByte, hv]⟩
  | true =>
    cases hc : commandOf (indexOf b) with
    | none => exact .inr (.inl ⟨rfl, rfl, by simp [acceptCommandByte, hv, hc]⟩)
    | some c => exact .inr (.inr ⟨rfl, ⟨c, rfl⟩, by simp [acceptCommandByte, hv, hc]⟩)

/-- Everything a written byte can do when it answers a next state (40 R133). -/
theorem writeByte_cases {s t : State} {b : Byte} (h : writeByte b s = .next t) :
    (s.decoderState = .awaitingCommand ∧ t = acceptCommandByte b s) ∨
    (∃ k, s.decoderState = .awaitingArg k ∧ t = acceptArgByte k b s) ∨
    (s.decoderState = .awaitingCrc ∧ ∃ c, commandOf s.currentCommand = some c ∧
      exec (c.instr (arg32 s) b) s = .next t) ∨
    (s.decoderState = .awaitingDataToken ∧ (t = s ∨ t = (s.setCount 0).setDecoder .awaitingData)) ∨
    (s.decoderState = .awaitingData ∧ ∃ h : s.dataCount < 512, t = { s with
      sendBuffer := s.sendBuffer.set s.dataCount b h, dataCount := s.dataCount + 1,
      decoderState := if s.dataCount + 1 = 512 then .awaitingDataCrc1 else s.decoderState }) ∨
    (s.decoderState = .awaitingDataCrc1 ∧ t = s.setDecoder .awaitingDataCrc2) ∨
    (s.decoderState = .awaitingDataCrc2 ∧ t = (executeDataPhase s).setDecoder .awaitingCommand) := by
  cases hd : s.decoderState with
  | awaitingCommand =>
    rw [writeByte_command hd] at h; injection h with h
    exact .inl ⟨rfl, h.symm⟩
  | awaitingArg k =>
    rw [writeByte_arg hd] at h; injection h with h
    exact .inr (.inl ⟨k, rfl, h.symm⟩)
  | awaitingCrc =>
    rw [writeByte_crc hd] at h
    cases hc : commandOf s.currentCommand with
    | none => rw [runFrame_unsupported hc] at h; cases h
    | some c =>
      rw [runFrame_supported hc] at h
      exact .inr (.inr (.inl ⟨rfl, c, rfl, h⟩))
  | awaitingDataToken =>
    rw [writeByte_token hd, awaitToken_eq] at h
    refine .inr (.inr (.inr (.inl ⟨rfl, ?_⟩)))
    split at h
    · simp only [exec, execDataToken, hd] at h; injection h with h; exact .inr h.symm
    · injection h with h; exact .inl h.symm
  | awaitingData =>
    rw [writeByte_data hd] at h
    by_cases hn : s.dataCount < 512
    · rw [acceptDataByte_next hn] at h; injection h with h
      exact .inr (.inr (.inr (.inr (.inl ⟨rfl, hn, by rw [← hd]; exact h.symm⟩))))
    · rw [acceptDataByte_fault hn] at h; cases h
  | awaitingDataCrc1 => rw [writeByte_dataCrc1 hd] at h; injection h with h; simp [← h]
  | awaitingDataCrc2 => rw [writeByte_dataCrc2 hd] at h; injection h with h; simp [← h]

/-- The decoder's state after a command frame, bound or not (40 R122, R132). -/
theorem exec_instr_decoderState {c : Command} {arg : BitVec 32} {crc : Byte} {s t : State}
    (h : exec (c.instr arg crc) s = .next t) : t.decoderState = afterFrame c := by
  cases c <;> (injection h with h; subst h; rfl)

/-! ### The host's entry points -/

/-- Everything a read can do (44 R233): a byte of the response, 0xFF past its end, or a cursor past the buffer, which no
run reaches. -/
theorem readByte_cases (s : State) :
    (∃ h : s.response.cursor < 516, s.response.cursor < s.response.endPos ∧
      readByte s = .next ((s.setCursor (s.response.cursor + 1)).ret (.byte s.response.buf[s.response.cursor]))) ∨
    (¬ s.response.cursor < s.response.endPos ∧ readByte s = .next (s.ret (.byte readFill))) ∨
    (¬ s.response.cursor < 516 ∧ s.response.cursor < s.response.endPos ∧ readByte s = .fault .responseOverrun) := by
  by_cases h : s.response.cursor < s.response.endPos
  · by_cases h' : s.response.cursor < 516
    · exact .inl ⟨h', h, by simp [readByte, h, h']⟩
    · exact .inr (.inr ⟨h', h, by rw [readByte, if_pos h, Vector.getElem?_eq_none (by omega)]⟩)
  · exact .inr (.inl ⟨h, by simp [readByte, h]⟩)

/-- The result of a commit's writes as one record update (42 R208). -/
theorem cacheCommit_snd (st : Store) (s : State) : (cacheCommit st s).2 = { s with
    boundStore := some (commitRun st s).store, draws := (commitRun st s).draws,
    events := s.events ++ (commitRun st s).failed.map (Event.ioError .write),
    cache := committedCache s (commitRun st s).failed } := rfl

/-- Letting go of a store as one record update (44 R235). -/
theorem unbind_eq (st : Store) (s : State) : unbind st s = { s with
    boundStore := none, cache := [],
    released := (if s.params.ejectPersists then (commitRun st s).store else s.boundStore.getD st) :: s.released,
    draws := if s.params.ejectPersists then (commitRun st s).draws else s.draws,
    events := if s.params.ejectPersists then s.events ++ (commitRun st s).failed.map (Event.ioError .write)
      else s.events } := by
  by_cases h : s.params.ejectPersists = true
  · simp only [unbind, h, if_true, cacheCommit_snd]; rfl
  · simp only [unbind, h]; rfl

/-- Ejecting an unbound card is the implicit reset (44 R235, D6). -/
theorem eject_unbound {s : State} (h : s.boundStore = none) : eject s = select s := by simp [eject, h]

/-- Ejecting a bound card (44 R235). -/
theorem eject_bound {s : State} {st : Store} (h : s.boundStore = some st) : eject s = select (unbind st s) := by
  simp [eject, h]

/-- After an eject no store is bound. -/
@[simp] theorem eject_boundStore (s : State) : (eject s).boundStore = none := by
  cases h : s.boundStore with
  | none => rw [eject_unbound h]; exact h
  | some st => rw [eject_bound h]; rfl

/-- Everything an eject can do, as one record update: which store is released, which events are added and where the
draws stand depends on the policy (44 R235). -/
theorem eject_cases (s : State) : ∃ rel es n, eject s = { s with
      decoderState := .awaitingCommand, response := s.response.clear, boundStore := none,
      cache := if s.boundStore.isSome then [] else s.cache, released := rel ++ s.released, events := s.events ++ es,
      draws := n } ∧
    (s.params.ejectPersists = false → es = [] ∧ n = s.draws) ∧
    ((∀ st, s.boundStore = some st → st.data.wf = true) → ∀ st ∈ rel, st.data.wf = true) := by
  cases hb : s.boundStore with
  | none =>
    refine ⟨[], [], s.draws, ?_, by simp, by simp⟩
    rw [eject_unbound hb]
    simp [select, State.setDecoder, State.clearResponse, hb]
  | some st =>
    rw [eject_bound hb, unbind_eq, hb]
    by_cases hp : s.params.ejectPersists = true
    · refine ⟨[(commitRun st s).store], (commitRun st s).failed.map (.ioError .write), (commitRun st s).draws, ?_,
        by simp [hp], ?_⟩
      · simp only [hp, if_true]; rfl
      · intro h st' hm
        simp only [List.mem_singleton] at hm
        subst hm
        exact writeAll_wf _ _ (h st rfl)
    · refine ⟨[st], [], s.draws, ?_, by simp, ?_⟩
      · simp only [hp, List.append_nil]; rfl
      · intro h st' hm
        simp only [List.mem_singleton] at hm
        subst hm
        exact h _ rfl

/-- Committing an unbound card returns `Ok` (44 R237, D31). -/
theorem commit_unbound {s : State} (h : s.boundStore = none) : commit s = s.ret .ok := by simp [commit, h]

/-- Committing a bound card (44 R237). -/
theorem commit_bound {s : State} {st : Store} (h : s.boundStore = some st) : commit s =
    (cacheCommit st s).2.ret (if (commitRun st s).failed.isEmpty then .ok else .ioError) := by
  simp [commit, h, cacheCommit]

/-- An insert on an unbound card (43 R224). -/
theorem insertPath_unbound {s : State} (h : s.boundStore = none) (o : OpenResult) :
    insertPath o s = insertUnbound o s := by simp [insertPath, h]

/-- An insert on a bound card: an eject first (43 R224, D23). -/
theorem insertPath_bound {s : State} {st : Store} (h : s.boundStore = some st) (o : OpenResult) :
    insertPath o s = insertUnbound o (eject s) := by simp [insertPath, h]

/-- Everything an insert on an unbound card can do: an error reported and returned, a refusal, or a store bound (43
R221, R224). -/
theorem insertUnbound_cases (o : OpenResult) (s : State) :
    (∃ d rel, (rel = [] ∨ ∃ st, o = .opened st ∧ rel = [st]) ∧ insertUnbound o s = { s with
      events := s.events ++ [.mediaError d], results := s.results ++ [.mediaError], released := rel ++ s.released }) ∨
    (∃ st, o = .opened st ∧ insertUnbound o s = s.markRefused) ∨
    (∃ st, o = .opened st ∧ st.geometry.sectorSize ∈ s.params.acceptedSectorSizes ∧
      st.geometry.totalSectors % 1024 = 0 ∧ st.geometry.totalSectors ≠ 0 ∧ insertUnbound o s = bindStore st s) := by
  cases o with
  | openFailed => exact .inl ⟨.openFailed, [], .inl rfl, rfl⟩
  | geometryFailed => exact .inl ⟨.geometryFailed, [], .inl rfl, rfl⟩
  | opened st =>
    simp only [insertUnbound, admitStore]
    split
    · exact .inl ⟨_, [st], .inr ⟨st, rfl, rfl⟩, rfl⟩
    · split
      · exact .inl ⟨_, [st], .inr ⟨st, rfl, rfl⟩, rfl⟩
      · split
        · exact .inr (.inl ⟨st, rfl, rfl⟩)
        · rename_i h1 h2 h3
          exact .inr (.inr ⟨st, rfl, by simpa using h1, by simpa [cSizeUnit] using h2, h3, rfl⟩)

/-- The capacity code as a number (43 R222, R223). -/
theorem capacityOf_toNat (n : Nat) : (capacityOf n).toNat = min (n / 1024 - 1) 65375 := by
  simp only [capacityOf, cSizeUnit, cSizeMax, BitVec.toNat_ofNat]; omega

/-! ### Each call's operation -/

@[simp] theorem runCall_select (s : State) : runCall .select s = .next (select s) := rfl
@[simp] theorem runCall_write (b : Byte) (s : State) : runCall (.write b) s = writeByte b s := rfl
@[simp] theorem runCall_read (s : State) : runCall .read s = readByte s := rfl
@[simp] theorem runCall_insert (o : OpenResult) (s : State) : runCall (.insert o) s = .next (insertPath o s) := rfl
@[simp] theorem runCall_eject (s : State) : runCall .eject s = .next (eject s) := rfl
@[simp] theorem runCall_isDirty (s : State) : runCall .isDirty s = .next (isDirty s) := rfl
@[simp] theorem runCall_commit (s : State) : runCall .commit s = .next (commit s) := rfl
@[simp] theorem runCall_destroy (s : State) : runCall .destroy s = .next (destroy s) := rfl

/-! ### Steps -/

/-- Every instruction answers a next state, from every state. -/
theorem exec_next (i : Instr) (s : State) : ∃ t, exec i s = .next t := by
  cases i
  case dataToken => simp only [exec, execDataToken]; split <;> exact ⟨_, rfl⟩
  all_goals exact ⟨_, rfl⟩

/-- Everything a step that answers a next state can be: nothing pending and nothing changed, or one call run. -/
theorem step_cases {s t : State} (h : step s = .next t) : s.CanStep ∧
    ((s.hostCalls = [] ∧ t = s) ∨ ∃ c rest, s.hostCalls = c :: rest ∧ runCall c (s.setCalls rest) = .next t) := by
  unfold step at h
  split at h
  · cases h
  · split at h
    · cases h
    · rename_i h1 h2
      refine ⟨⟨by simpa using h1, by simpa using h2⟩, ?_⟩
      unfold runPending at h
      split at h
      · rename_i hc; injection h with h; exact .inl ⟨hc, h.symm⟩
      · rename_i c rest hc; exact .inr ⟨c, rest, hc, h⟩

/-- A Card that can step runs its next pending call. -/
theorem step_call {s : State} (h : s.CanStep) {c : HostCall} {rest : List HostCall} (hc : s.hostCalls = c :: rest) :
    step s = runCall c (s.setCalls rest) := by
  simp [step, h.1, h.2, runPending, hc]

/-- A Card with nothing pending stays as it is. -/
theorem step_idle {s : State} (h : s.CanStep) (hc : s.hostCalls = []) : step s = .next s := by
  simp [step, h.1, h.2, runPending, hc]

end Sys2Proof.Machine
end

