-- ==== Sys2Proof/Laws/PerInstr.lean ====
section
/-! SUPPORT. A statement about every instruction as syntax, one lemma for each constructor: how long its encoding is
and in which slot it is well formed (30_encoding R70, R72, R76). -/

namespace Sys2Proof.Laws.EncodingShape

/-- A command frame has six bytes, the first of valid framing, and is well formed in the command slot alone; the data
token is one byte of invalid framing, well formed in the token slot alone. -/
def Statement (i : Instr) : Prop :=
  (i.wellFormed .command = true ∧ i.wellFormed .dataToken = false ∧ (encode i).length = 6 ∧
      ∃ b bs, encode i = b :: bs ∧ validFrameByte b = true) ∨
    (i.wellFormed .command = false ∧ i.wellFormed .dataToken = true ∧
      ∃ b, encode i = [b] ∧ validFrameByte b = false)

/-- Every frame has the shape of a frame. -/
theorem frame (c : Command) (arg : BitVec 32) (crc : Byte) : Statement (c.instr arg crc) :=
  .inl ⟨by simp [Instr.wellFormed], by simp [Instr.wellFormed], by rw [encode_instr]; rfl,
    _, _, by rw [encode_instr]; rfl, by simp⟩

theorem goIdleState (arg : BitVec 32) (crc : Byte) : Statement (.goIdleState arg crc) := frame .goIdleState arg crc
theorem sendIfCond (arg : BitVec 32) (crc : Byte) : Statement (.sendIfCond arg crc) := frame .sendIfCond arg crc
theorem sendCsd (arg : BitVec 32) (crc : Byte) : Statement (.sendCsd arg crc) := frame .sendCsd arg crc
theorem sendCid (arg : BitVec 32) (crc : Byte) : Statement (.sendCid arg crc) := frame .sendCid arg crc
theorem readSingleBlock (arg : BitVec 32) (crc : Byte) : Statement (.readSingleBlock arg crc) :=
  frame .readSingleBlock arg crc
theorem writeBlock (arg : BitVec 32) (crc : Byte) : Statement (.writeBlock arg crc) := frame .writeBlock arg crc
theorem appSendOpCond (arg : BitVec 32) (crc : Byte) : Statement (.appSendOpCond arg crc) :=
  frame .appSendOpCond arg crc
theorem appCmd (arg : BitVec 32) (crc : Byte) : Statement (.appCmd arg crc) := frame .appCmd arg crc
theorem readOcr (arg : BitVec 32) (crc : Byte) : Statement (.readOcr arg crc) := frame .readOcr arg crc
theorem dataToken : Statement .dataToken := .inr ⟨rfl, rfl, dataTokenByte, rfl, by decide⟩

end Sys2Proof.Laws.EncodingShape
end

