-- ==== Sys2Proof/Laws/Run.lean ====
section
/-! SUPPORT. The laws of runs of several steps. -/

namespace Sys2Proof.Machine

/-- A run of no step. -/
@[simp] theorem runSteps_zero (s : State) : runSteps 0 s = .next s := rfl

/-- A run is its first step and then the rest. -/
theorem runSteps_succ {s t : State} (k : Nat) (h : step s = .next t) : runSteps (k + 1) s = runSteps k t := by
  rw [runSteps, h]

/-- A run of one step is that step. -/
theorem runSteps_one (s : State) : runSteps 1 s = step s := by
  rw [runSteps]; cases step s <;> rfl

/-- A run split in two: the first part, then the rest from where it ends. -/
theorem runSteps_add {s t : State} (j k : Nat) (h : runSteps j s = .next t) :
    runSteps (j + k) s = runSteps k t := by
  induction j generalizing s with
  | zero => injection h with h; subst h; rw [Nat.zero_add]
  | succ j ih =>
    rw [runSteps] at h
    cases hs : step s with
    | next u => rw [hs] at h; rw [Nat.succ_add, runSteps_succ _ hs]; exact ih h
    | fault r => rw [hs] at h; cases h
    | refused r => rw [hs] at h; cases h

/-- The host's interface runs the same steps. -/
theorem core_run_eq (k : Nat) (s : State) : Host.Core.run core k s = runSteps k s := by
  induction k generalizing s with
  | zero => rfl
  | succ k ih =>
    refine (Host.Core.run.eq_2 core s k).trans ?_
    rw [runSteps]
    cases h : step s with
    | next t =>
      have h' : core.step s = (.next t : Host.Outcome core.State core.Fault core.Refusal) := h
      rw [h']; exact ih t
    | fault r =>
      have h' : core.step s = (.fault r : Host.Outcome core.State core.Fault core.Refusal) := h
      rw [h']; rfl
    | refused r =>
      have h' : core.step s = (.refused r : Host.Outcome core.State core.Fault core.Refusal) := h
      rw [h']; rfl

end Sys2Proof.Machine
end

