-- ==== Sys2Proof/Tests/Slice0.lean ====
section
/-! SUPPORT. The model's own tests: well-formedness, decoding of words written out from the spec, single steps whose
expected results are those of spec/95_test_vectors.md, and for each statement with hypotheses a state that meets
them. -/

namespace Sys2Proof.Tests

open Sys2Proof Sys2Proof.Machine

/-! ### Well-formedness: one ill-formed term for each check -/

theorem test_wellFormed_accepts :
    (Instr.goIdleState 0 0x95).wellFormed .command = true ∧ Instr.dataToken.wellFormed .dataToken = true := by decide

theorem test_wellFormed_refuses_token_as_command : Instr.dataToken.wellFormed .command = false := by decide

theorem test_wellFormed_refuses_frame_as_token : (Instr.appCmd 0 0).wellFormed .dataToken = false := by decide

/-- An image with an unlisted byte written out, and one with falling addresses. -/
theorem test_wellFormed_refuses_image :
    (HostCall.insert (.opened { geometry := ⟨1, 16, 64, 512⟩, data := [(0, 0)], kind := .drawn })).wellFormed = false ∧
    (HostCall.insert (.opened { geometry := ⟨1, 16, 64, 512⟩, data := [(7, 1), (3, 1)], kind := .drawn })).wellFormed
      = false := by decide

/-! ### Decoding: one word for each constructor, bit by bit from 30_encoding R70, R71, R75

Frame: `01` framing, six index bits, 32 argument bits, eight CRC bits. -/

/-- CMD0: 01 000000, argument 0, CRC 0x95 (R84). -/
theorem test_decode_goIdleState :
    decodeTableWord 48 0b01000000_00000000_00000000_00000000_00000000_10010101 = some (.goIdleState 0 0x95) := by decide

/-- CMD8: 01 001000, argument 0x000001AA. -/
theorem test_decode_sendIfCond :
    decodeTableWord 48 0b01001000_00000000_00000000_00000001_10101010_10000111 =
      some (.sendIfCond 0x1AA 0x87) := by decide

/-- CMD9: 01 001001. -/
theorem test_decode_sendCsd :
    decodeTableWord 48 0b01001001_00000000_00000000_00000000_00000000_11111111 = some (.sendCsd 0 0xFF) := by decide

/-- CMD10: 01 001010. -/
theorem test_decode_sendCid :
    decodeTableWord 48 0b01001010_00000000_00000000_00000000_00000000_00000001 = some (.sendCid 0 0x01) := by decide

/-- CMD17: 01 010001, argument 0x12345678: its first byte is the most significant one. -/
theorem test_decode_readSingleBlock :
    decodeTableWord 48 0b01010001_00010010_00110100_01010110_01111000_00000000 =
      some (.readSingleBlock 0x12345678 0) := by decide

/-- CMD24: 01 011000, the largest argument. -/
theorem test_decode_writeBlock :
    decodeTableWord 48 0b01011000_11111111_11111111_11111111_11111111_11111111 =
      some (.writeBlock 0xFFFFFFFF 0xFF) := by decide

/-- CMD41: 01 101001, argument bit 30 set. -/
theorem test_decode_appSendOpCond :
    decodeTableWord 48 0b01101001_01000000_00000000_00000000_00000000_00000000 =
      some (.appSendOpCond 0x40000000 0) := by decide

/-- CMD55: 01 110111. -/
theorem test_decode_appCmd :
    decodeTableWord 48 0b01110111_00000000_00000000_00000000_00000001_00000000 = some (.appCmd 1 0) := by decide

/-- CMD58: 01 111010. -/
theorem test_decode_readOcr :
    decodeTableWord 48 0b01111010_00000000_00000000_00000000_00000000_11111101 = some (.readOcr 0 0xFD) := by decide

/-- The data token 0xFE (R72). -/
theorem test_decode_dataToken : decodeTableWord 8 0b11111110 = some .dataToken := by decide

/-- Reserved words are refused by name: bad framing, an unsupported index, a short frame, another token byte (R76). -/
theorem test_decode_refuses :
    decode .command [0xC0, 0, 0, 0, 0, 0] = .error .badFraming ∧
    decode .command [0x7F, 0, 0, 0, 0, 0] = .error (.unsupportedIndex 63) ∧
    decode .command [0x40, 0, 0, 0, 0] = .error .truncated ∧
    decode .dataToken [0xFC] = .error .notDataToken := by decide

/-! ### Small states -/

/-- `INSERT(2,16,64,512)` of spec/95: 2048 sectors, the reference store, two bytes of sector 9 set. -/
def cardStore : Store where
  geometry := ⟨2, 16, 64, 512⟩
  data := [(4608, 0x5A), (4609, 0xA5)]
  kind := .reference

/-- A card bound to that store, capacity field 1, with the given `idle` flag. -/
def boundCard (idle : Bool) : State :=
  { State.reset with boundStore := some cardStore, capacityField := 1, idle := idle }

/-- The default arguments with an `EJECT_PERSISTS` of the test's own. -/
def withPersists (v : Bool) (s : State) : State :=
  { s with params := { ejectPersists := v, commitClears := false, acceptedSectorSizes := [512] } }

/-- The card with these calls pending and the decoder in this state. -/
def waiting (d : DecoderState) (calls : List HostCall) (s : State) : State :=
  { s with decoderState := d, hostCalls := calls }

/-- A block that is 0x11 throughout. -/
def block11 : Sector := Vector.replicate 512 0x11

/-- A view of the next state, if there is one. -/
def view {α : Type} (o : Outcome) (f : State → α) : Option α :=
  match o with
  | .next t => some (f t)
  | .fault _ => none
  | .refused _ => none

/-! ### Instructions, against spec/95 -/

/-- L2-C1: any argument; `idle` becomes 1 and the response is one byte 01. -/
theorem test_goIdleState :
    view (exec (.goIdleState 0xFFFFFFFF 0) (boundCard false)) (fun t => (t.idle, t.response.unread, t.decoderState)) =
      some (true, [0x01], .awaitingCommand) := by decide +kernel

/-- L2-C2: the echo of the check pattern. -/
theorem test_sendIfCond :
    view (exec (.sendIfCond 0x000001AA 0x87) (boundCard true)) (·.response.unread) =
      some [0x01, 0x00, 0x00, 0x01, 0xAA] := by decide +kernel

/-- L2-C3: argument bytes 0 to 2 are not echoed. -/
theorem test_sendIfCond_other_bytes :
    view (exec (.sendIfCond 0xFFFF0512 0) (boundCard false)) (·.response.unread) =
      some [0x00, 0x00, 0x00, 0x01, 0x12] := by decide +kernel

/-- L2-C4: the first 20 bytes, and how many there are. -/
theorem test_sendCsd :
    view (exec (.sendCsd 0 0xFF) (boundCard false)) (fun t => (t.response.unread.take 20, t.response.endPos)) =
      some ([0x00, 0xFE, 0x40, 0, 0, 0, 0, 0x09, 0, 0, 0, 0x01, 0, 0, 0x02, 0x40, 0, 0x01, 0, 0], 516) := by
  decide +kernel

/-- L2-C5: the largest capacity field, 65375. -/
theorem test_sendCsd_capacity :
    view (exec (.sendCsd 0 0xFF) { boundCard false with capacityField := 65375 })
      (fun t => (t.response.unread.drop 10).take 2) = some [0xFF, 0x5F] := by decide +kernel

/-- L2-C6. -/
theorem test_sendCid :
    view (exec (.sendCid 0 0xFF) (boundCard true)) (fun t => (t.response.unread.take 20, t.response.endPos)) =
      some ([0x01, 0xFE, 0, 0, 0, 0, 0, 0, 0, 0, 0, 0, 0, 0, 0, 0, 0, 0x01, 0, 0], 516) := by decide +kernel

/-- L2-C7: an uncached sector comes from the store, and the cache stays empty. -/
theorem test_readSingleBlock :
    view (exec (.readSingleBlock 9 0xFF) (boundCard false))
      (fun t => (t.response.unread.take 5, t.response.endPos, dirtyFlag t)) =
      some ([0x00, 0xFE, 0x5A, 0xA5, 0x00], 516, false) := by decide +kernel

/-- L2-C8: beyond the store's sectors the read fails, is logged, and the response stays. -/
theorem test_readSingleBlock_out_of_range :
    view (exec (.readSingleBlock 2048 0xFF) (boundCard false)) (fun t => (t.response, t.events, t.decoderState)) =
      some ((boundCard false).response, [.ioError .read 2048], .awaitingCommand) := by decide +kernel

/-- L2-C11. -/
theorem test_writeBlock :
    view (exec (.writeBlock 5 0xFF) (boundCard true)) (fun t => (t.response.unread, t.decoderState, t.argument)) =
      some ([0x01], .awaitingDataToken, #v[0, 0, 0, 5]) := by decide +kernel

/-- L2-D13: on an unbound card no response is built, and the data phase still follows. -/
theorem test_writeBlock_unbound :
    view (exec (.writeBlock 3 0xFF) State.reset) (fun t => (t.response.unread, t.decoderState)) =
      some ([], .awaitingDataToken) := by decide +kernel

/-- L2-C12, L2-C13: `idle` becomes 0 without an APP_CMD before it. -/
theorem test_appSendOpCond :
    view (exec (.appSendOpCond 0 0xFF) (boundCard true)) (fun t => (t.idle, t.response.unread)) =
      some (false, [0x00]) := by decide +kernel

/-- L2-C14. -/
theorem test_appCmd :
    view (exec (.appCmd 0 0xFF) (boundCard true)) (fun t => (t.idle, t.response.unread)) =
      some (true, [0x01]) := by decide +kernel

/-- L2-C15. -/
theorem test_readOcr :
    view (exec (.readOcr 0 0xFF) (boundCard true)) (·.response.unread) =
      some [0x01, 0xC0, 0x00, 0x00, 0x00] := by decide +kernel

/-- L2-D9. -/
theorem test_dataToken :
    view (exec .dataToken (waiting .awaitingDataToken [] { State.reset with dataCount := 512 }))
      (fun t => (t.dataCount, t.decoderState)) = some (0, .awaitingData) := by decide

/-! ### Bytes and calls, against spec/95 -/

/-- L2-D1, L2-D3: a supported index is latched, an unsupported one is logged. -/
theorem test_command_bytes :
    view (step (waiting .awaitingCommand [.write 0x51] (boundCard false))) (fun t => (t.currentCommand, t.decoderState)) =
      some (17, .awaitingArg 0) ∧
    view (step (waiting .awaitingCommand [.write 0x7F] (boundCard false))) (fun t => (t.events, t.decoderState)) =
      some ([.protocolError 63], .awaitingCommand) := by decide

/-- L2-D11: the 512th byte ends the block. -/
theorem test_last_data_byte :
    view (step (waiting .awaitingData [.write 0x12] { State.reset with currentCommand := 24, dataCount := 511 }))
      (fun t => (t.sendBuffer[511], t.dataCount, t.decoderState)) = some (0x12, 512, .awaitingDataCrc1) := by
  decide +kernel

/-- L1-12: the acknowledgment. -/
theorem test_data_ack :
    view (step (waiting .awaitingDataCrc2 [.write 0xFF]
      { boundCard false with currentCommand := 24, dataCount := 512, sendBuffer := block11 }))
      (fun t => (t.response.unread, t.cache)) = some ([0x05, 0x05], [(0, block11)]) := by decide +kernel

/-- R208, R243, R245 on the store: a commit writes the sector the store has and reports the one it does not have,
whatever the order drawn. -/
theorem test_commit_one_entry :
    view (step (waiting .awaitingCommand [.commit] { boundCard false with cache := [(2047, block11)] }))
      (fun t => (t.results, t.events, t.boundStore.map (fun st => (Memory.readByte st.data (512 * 2047 + 511),
        Memory.readByte st.data 4608)))) = some ([.ok], [], some (0x11, 0x5A)) ∧
    view (step (waiting .awaitingCommand [.commit] { boundCard false with cache := [(2048, block11)] }))
      (fun t => (t.results, t.events, dirtyFlag t)) = some ([.ioError], [.ioError .write 2048], true) := by
  decide +kernel

/-- R28: a shorter response after a longer one; only the new bytes are read. -/
theorem test_respond_replaces :
    (((State.reset.respond [1, 2, 3]).respond [9]).response.unread) = [9] := by decide +kernel

/-- L1-4: a read past the end gives 0xFF and moves nothing. -/
theorem test_read_past_end :
    view (step (waiting .awaitingCommand [.read] (boundCard false))) (fun t => (t.results, t.response.cursor)) =
      some ([.byte 0xFF], 0) := by decide

/-- L1-7, L1-8, L1-10 and 43_geometry R225: the capacity code, and its clamp. -/
theorem test_capacity :
    capacityOf 1024 = 0 ∧ capacityOf 2048 = 1 ∧ capacityOf 66945024 = 65375 ∧ capacityOf 66946048 = 65375 := by decide

/-- L1-7: the insert of the largest geometry. -/
theorem test_insert_clamps :
    view (step { State.reset with hostCalls := [callInsert .reference 65377 16 64 512] })
      (fun t => (t.results, t.capacityField)) = some ([.ok], 65375) := by decide

/-! ### Witnesses: a state and operands that meet the hypotheses of each statement that has some

The name after `witness_` is the statement's. -/

theorem boundCard_canStep : (boundCard false).CanStep := ⟨rfl, rfl⟩

theorem witness_DecodeOfEncode : (Instr.sendIfCond 0x1AA 0x87).wellFormed .command = true ∧
    Instr.dataToken.wellFormed .dataToken = true := by decide

theorem witness_DecodedBytesAreAnEncoding :
    decode .command [0x7A, 1, 2, 3, 4, 5, 6] = .ok (.readOcr 0x01020304 5, [6]) ∧
    decode .dataToken [0xFE, 7] = .ok (.dataToken, [7]) := by decide

/-- A byte for each clause, at the ends of its range: 0x3F and 0x80 have bad framing, 0x41 and 0x7F unsupported
indices, 0x40 and 0x7A supported ones. -/
theorem witness_CommandByteTransition :
    (waiting .awaitingCommand [.write 0x3F] State.reset).CanStep ∧
    (waiting .awaitingCommand [.write 0x3F] State.reset).decoderState = .awaitingCommand ∧
    (0x3F &&& 0xC0 : Byte) ≠ 0x40 ∧ (0x80 &&& 0xC0 : Byte) ≠ 0x40 ∧
    (∀ b ∈ [(0x41 : Byte), 0x7F], b &&& 0xC0 = 0x40 ∧ (b &&& 0x3F).toNat ∉ [0, 8, 9, 10, 17, 24, 41, 55, 58]) ∧
    (∀ b ∈ [(0x40 : Byte), 0x7A], b &&& 0xC0 = 0x40 ∧ (b &&& 0x3F).toNat ∈ [0, 8, 9, 10, 17, 24, 41, 55, 58]) :=
  ⟨⟨rfl, rfl⟩, rfl, by decide⟩

theorem witness_ArgumentByteTransition : ∀ k ∈ [(0 : Fin 4), 3],
    (waiting (.awaitingArg k) [.write 0xFF] State.reset).CanStep ∧
    (waiting (.awaitingArg k) [.write 0xFF] State.reset).hostCalls = .write 0xFF :: [] ∧
    (waiting (.awaitingArg k) [.write 0xFF] State.reset).decoderState = .awaitingArg k :=
  fun _ _ => ⟨⟨rfl, rfl⟩, rfl, rfl⟩

/-- Both clauses: 0xFE, and the bytes beside it. -/
theorem witness_TokenWaitTransition : ∀ b ∈ [(0xFE : Byte), 0xFD, 0xFF],
    (waiting .awaitingDataToken [.write b] State.reset).CanStep ∧
    (waiting .awaitingDataToken [.write b] State.reset).hostCalls = .write b :: [] ∧
    (waiting .awaitingDataToken [.write b] State.reset).decoderState = .awaitingDataToken :=
  fun _ _ => ⟨⟨rfl, rfl⟩, rfl, rfl⟩

/-- The first and the last data byte. -/
theorem witness_DataByteTransition : ∀ n ∈ [0, 511],
    (waiting .awaitingData [.write 0] { State.reset with dataCount := n }).dataCount < 512 ∧
    (waiting .awaitingData [.write 0] { State.reset with dataCount := n }).CanStep ∧
    (waiting .awaitingData [.write 0] { State.reset with dataCount := n }).decoderState = .awaitingData := by
  intro n h
  exact ⟨by simp at h; rcases h with rfl | rfl <;> decide, ⟨rfl, rfl⟩, rfl⟩

theorem witness_FirstDataCrcTransition :
    (waiting .awaitingDataCrc1 [.write 0] State.reset).CanStep ∧
    (waiting .awaitingDataCrc1 [.write 0] State.reset).hostCalls = .write 0 :: [] ∧
    (waiting .awaitingDataCrc1 [.write 0] State.reset).decoderState = .awaitingDataCrc1 := ⟨⟨rfl, rfl⟩, rfl, rfl⟩

/-- The three clauses: another command latched, an unbound card, a bound one with an entry cached. -/
theorem witness_DataPhaseExecution :
    (∀ s ∈ [State.reset, { State.reset with currentCommand := 24 },
        { boundCard false with currentCommand := 24, cache := [(0, block11)] }],
      (waiting .awaitingDataCrc2 [.write 0] s).CanStep ∧
      (waiting .awaitingDataCrc2 [.write 0] s).hostCalls = .write 0 :: [] ∧
      (waiting .awaitingDataCrc2 [.write 0] s).decoderState = .awaitingDataCrc2) ∧
    State.reset.currentCommand ≠ 24 ∧ State.reset.boundStore = none ∧
    (boundCard false).boundStore = some cardStore ∧ cacheWf [(0, block11)] = true := by
  refine ⟨?_, by decide, rfl, rfl, by decide⟩
  intro s h
  simp only [List.mem_cons, List.not_mem_nil, or_false] at h
  rcases h with rfl | rfl | rfl <;> exact ⟨⟨rfl, rfl⟩, rfl, rfl⟩

/-- A state of each clause. -/
theorem witness_StepRunsDecodedInstruction :
    (waiting .awaitingCrc [.write 0x95] (boundCard false)).CanStep ∧
    decode .command (latchedFrame (waiting .awaitingCrc [.write 0x95] (boundCard false)) 0x95) =
      .ok (.goIdleState 0 0x95, []) ∧
    (waiting .awaitingDataToken [.write 0xFE] (boundCard false)).CanStep ∧
    decode .dataToken [0xFE] = .ok (.dataToken, []) :=
  ⟨⟨rfl, rfl⟩, by decide, ⟨rfl, rfl⟩, by decide⟩

theorem witness_SixWritesRunTheFrame :
    (waiting .awaitingCommand (callsCommand .writeBlock 5) (boundCard false)).CanStep ∧
    (Instr.writeBlock 5 0xFF).wellFormed .command = true ∧
    (waiting .awaitingCommand (callsCommand .writeBlock 5) (boundCard false)).hostCalls =
      (encode (.writeBlock 5 0xFF)).map .write ++ [] := ⟨⟨rfl, rfl⟩, by decide, by decide⟩

/-- A frame and the token. -/
theorem witness_PlacedWordRunsNext : State.reset.CanStep ∧
    decodeTableWord 48 0x6900000000FF = some (.appSendOpCond 0 0xFF) ∧ decodeTableWord 8 0xFE = some .dataToken :=
  ⟨⟨rfl, rfl⟩, by decide, by decide⟩

/-- The hypothesis of the results on a bound card: GoIdleStateResult, SendIfCondResult, SendCsdResult, SendCidResult,
WriteBlockResult, AppSendOpCondResult, AppCmdResult and ReadOcrResult. -/
theorem witness_results_on_a_bound_card : ∀ v, (boundCard v).boundStore = some cardStore := fun _ => rfl

/-- The three clauses: a cached sector, the last sector of the store, the first one past it. -/
theorem witness_ReadSingleBlockResult : (boundCard false).boundStore = some cardStore ∧
    cacheLookup [(7, block11)] 7 = some block11 ∧
    cacheLookup (boundCard false).cache 2047 = none ∧
    cardStore.read (boundCard false).draws 2047 = some (cardStore.sectorAt 0 2047) ∧
    cacheLookup (boundCard false).cache 2048 = none ∧
    cardStore.read (boundCard false).draws 2048 = none := by
  refine ⟨rfl, by simp [cacheLookup], rfl, ?_, rfl, ?_⟩ <;> simp [Store.read, cardStore, Geometry.totalSectors]
  rfl

theorem witness_DataTokenResult : (waiting .awaitingDataToken [] State.reset).decoderState = .awaitingDataToken := rfl

theorem witness_UnboundFramesAreNoOps : State.reset.boundStore = none := rfl

/-- A command, a failing read, and the token. -/
theorem witness_InstructionFrame :
    exec (.appCmd 1 2) State.reset = .next { State.reset with currentCommand := 55, argument := #v[0, 0, 0, 1] } ∧
    (∃ t, exec (.readSingleBlock 2048 0) (boundCard false) = .next t ∧ t.events = [.ioError .read 2048]) ∧
    exec .dataToken (waiting .awaitingDataToken [] (boundCard false)) =
      .next (waiting .awaitingData [] (boundCard false)) :=
  ⟨rfl, ⟨_, rfl, by decide⟩, rfl⟩

/-- A command with both outcomes given. -/
theorem witness_CommandsIgnoreIdle : ∃ t u,
    exec (Command.instr .appCmd 0 0) { boundCard false with idle := true } = .next t ∧
    exec (Command.instr .appCmd 0 0) { boundCard false with idle := false } = .next u := ⟨_, _, rfl, rfl⟩

/-- Both clauses: the CRC byte of CMD0 on a ready card, that of CMD41 on an idle one. -/
theorem witness_IdleChangesOnlyByItsCommands :
    (∃ t, step (waiting .awaitingCrc [.write 0] (boundCard false)) = .next t ∧ t.idle ≠ false) ∧
    (∃ t, step (waiting .awaitingCrc [.write 0] { boundCard true with currentCommand := 41 }) = .next t ∧
      t.idle ≠ true) :=
  ⟨⟨_, rfl, by decide⟩, ⟨_, rfl, by decide⟩⟩

theorem witness_AppCmdSetsNoMode : ∃ u, exec (.appCmd 0 0xFF) (boundCard true) = .next u := ⟨_, rfl⟩

/-- A frame's end and a data phase's end. -/
theorem witness_WritesBuildResponsesOnlyAtFrameEnd :
    (∃ t, step (waiting .awaitingCrc [.write 0] (boundCard false)) = .next t ∧
      t.response ≠ (boundCard false).response) ∧
    (∃ t, step (waiting .awaitingDataCrc2 [.write 0] { boundCard false with currentCommand := 24 }) = .next t ∧
      t.response ≠ (boundCard false).response) :=
  ⟨⟨_, rfl, fun h => absurd (congrArg Response.endPos h) (by decide)⟩,
    ⟨_, rfl, fun h => absurd (congrArg Response.endPos h) (by decide)⟩⟩

/-- A bound and an unbound card at the end of the same frame. -/
theorem witness_DecoderIgnoresTheStore : ∃ t t',
    step (waiting .awaitingCrc [.write 0] { boundCard true with currentCommand := 24 }) = .next t ∧
    step (waiting .awaitingCrc [.write 0] { State.reset with currentCommand := 24 }) = .next t' := ⟨_, _, rfl, rfl⟩

/-- Both kinds of store, and a read that answers, of the last sector. -/
theorem witness_StoreReadAnswers : cardStore.kind = .reference ∧ ({ cardStore with kind := .drawn } : Store).kind = .drawn ∧
    cardStore.read 3 2047 = some (cardStore.sectorAt 3 2047) ∧ (511 < 512) := by
  refine ⟨rfl, rfl, ?_, by decide⟩
  simp [Store.read, cardStore, Geometry.totalSectors]

/-- Both kinds of store; a successful write to the last sector, and a failing one past it; another sector. -/
theorem witness_StoreWriteAnswers : cardStore.kind = .reference ∧ ({ cardStore with kind := .drawn } : Store).kind = .drawn ∧
    (cardStore.write 0 2047 block11).1 = true ∧ (cardStore.write 0 2048 block11).1 = false ∧
    (2046 : SectorIndex) ≠ 2047 ∧ (∃ e, (cardStore.write 0 2047 block11).2.read 1 2047 = some e) := by
  refine ⟨rfl, rfl, ?_, ?_, by decide, ?_⟩ <;>
    simp [Store.write, Store.read, Store.putBytes, cardStore, Geometry.totalSectors]

theorem witness_CachePutThenLookup : cacheWf [(3, block11), (9, block11)] = true := by decide

/-- Byte 255 is the last one packed. -/
theorem witness_PackUnpackBytes : 255 < 256 := by decide

theorem witness_WholeDataPhase :
    (waiting .awaitingDataToken (callsBlock block11) { boundCard false with currentCommand := 24 }).CanStep ∧
    ({ boundCard false with currentCommand := 24 } : State).boundStore = some cardStore ∧
    (waiting .awaitingDataToken (callsBlock block11) { boundCard false with currentCommand := 24 }).hostCalls =
      (0xFE :: (block11.toList ++ [0xFF, 0xFF])).map .write ++ [] :=
  ⟨⟨rfl, rfl⟩, rfl, (List.append_nil _).symm⟩

theorem witness_WriteThenReadBack :
    (waiting .awaitingCommand (callsWriteBlk 5 block11 ++ (callsCommand .readSingleBlock 5 ++ []))
      (boundCard false)).CanStep ∧ (boundCard false).decoderState = .awaitingCommand ∧
    (boundCard false).boundStore = some cardStore := ⟨⟨rfl, rfl⟩, rfl, rfl⟩

/-- A changed cache: at the end of a data phase, and by an eject. -/
theorem witness_CacheChangesOnlyThere :
    (∃ t, step (waiting .awaitingDataCrc2 [.write 0] { boundCard false with currentCommand := 24 }) = .next t ∧
      t.cache ≠ (boundCard false).cache) ∧
    (∃ t, step (waiting .awaitingCommand [.eject]
      (withPersists false { boundCard false with cache := [(5, block11)] })) = .next t ∧ t.cache ≠ [(5, block11)]) :=
  ⟨⟨_, rfl, fun h => absurd (congrArg List.length h) (by decide)⟩,
    ⟨_, rfl, fun h => absurd (congrArg List.length h) (by decide)⟩⟩

theorem witness_StoreChangesOnlyByHostCalls :
    ∃ t, step (waiting .awaitingCommand [.eject] (withPersists false (boundCard false))) = .next t ∧
      t.boundStore ≠ (boundCard false).boundStore := ⟨_, rfl, fun h => absurd (congrArg Option.isSome h) (by decide)⟩

/-- An unbound card with an insert pending, whatever the opening answers. -/
theorem witness_insert_pending (o : OpenResult) : (waiting .awaitingCommand [.insert o] State.reset).CanStep ∧
    (waiting .awaitingCommand [.insert o] State.reset).boundStore = none ∧
    (waiting .awaitingCommand [.insert o] State.reset).hostCalls = .insert o :: [] := ⟨⟨rfl, rfl⟩, rfl, rfl⟩

/-- With `witness_insert_pending`: the smallest store, the largest one that keeps its size unclamped, and one that is
clamped. -/
theorem witness_InsertBindsAUsableStore : 512 ∈ State.reset.params.acceptedSectorSizes ∧
    ∀ cyl ∈ [1, 65376, 65377], cyl * 16 * 64 % 1024 = 0 ∧ cyl * 16 * 64 ≠ 0 :=
  ⟨by decide, by decide⟩

/-- With `witness_insert_pending`: for the last two clauses a size that is not accepted, one sector too many, and one
too few. -/
theorem witness_InsertRejectsInOrder : 256 ∉ State.reset.params.acceptedSectorSizes ∧ 512 ∈ State.reset.params.acceptedSectorSizes ∧
    (⟨1, 1, 1025, 512⟩ : Geometry).totalSectors % 1024 ≠ 0 ∧ (⟨1, 1, 1023, 512⟩ : Geometry).totalSectors % 1024 ≠ 0 :=
  ⟨by decide, by decide, by decide, by decide⟩

/-- With `witness_insert_pending`. -/
theorem witness_ZeroSectorsAreRefused :
    512 ∈ State.reset.params.acceptedSectorSizes ∧ (⟨0, 16, 64, 512⟩ : Geometry).totalSectors = 0 :=
  ⟨by decide, by decide⟩

theorem witness_InsertOnABoundCardEjectsFirst :
    (boundCard false).CanStep ∧ (boundCard false).boundStore = some cardStore := ⟨⟨rfl, rfl⟩, rfl⟩

/-- A call of each of the entry points with a result of its own: SelectResult, IsDirtyResult,
DestructionIsAFinalEject. -/
theorem witness_calls : ∀ c ∈ [HostCall.select, .isDirty, .destroy],
    (waiting .awaitingCommand [c] (boundCard false)).CanStep ∧
    (waiting .awaitingCommand [c] (boundCard false)).hostCalls = c :: [] := fun _ _ => ⟨⟨rfl, rfl⟩, rfl⟩

/-- Both clauses: the last byte of a full response, and the end of it. -/
theorem witness_ReadResult :
    ({ State.reset with response := ⟨Vector.replicate 516 0, 515, 516⟩ } : State).response.cursor < 516 ∧
    ({ State.reset with response := ⟨Vector.replicate 516 0, 515, 516⟩ } : State).response.cursor <
      ({ State.reset with response := ⟨Vector.replicate 516 0, 515, 516⟩ } : State).response.endPos ∧
    ¬ ({ State.reset with response := ⟨Vector.replicate 516 0, 516, 516⟩ } : State).response.cursor <
      ({ State.reset with response := ⟨Vector.replicate 516 0, 516, 516⟩ } : State).response.endPos := by decide

/-- One byte is left and three are read. -/
theorem witness_ReadsDrainTheResponse :
    (waiting .awaitingCommand (callsRead 3) { State.reset with response := ⟨Vector.replicate 516 0, 4, 5⟩ }).CanStep ∧
    (waiting .awaitingCommand (callsRead 3) State.reset).hostCalls = callsRead 3 ++ [] ∧ 4 ≤ 5 ∧ 5 ≤ 516 :=
  ⟨⟨rfl, rfl⟩, rfl, by decide, by decide⟩

/-- An unbound card, and a bound one under each policy. -/
theorem witness_EjectResult : State.reset.boundStore = none ∧ (boundCard false).boundStore = some cardStore ∧
    (withPersists false (boundCard false)).params.ejectPersists = false ∧
    (withPersists true (boundCard false)).params.ejectPersists = true ∧
    (waiting .awaitingCommand [.eject] (boundCard false)).CanStep ∧
    (waiting .awaitingCommand [.eject] (boundCard false)).hostCalls = .eject :: [] :=
  ⟨rfl, rfl, rfl, rfl, ⟨rfl, rfl⟩, rfl⟩

/-- With `witness_CommitResult`, for `Store.Persisted`: a cache with a sector that the reference store takes (its last
one) and one that it refuses (the last index of all), and stores of both kinds and of 256-byte sectors. -/
theorem witness_Persisted : cacheWf [(2047, block11), (0xFFFFFFFF, block11)] = true ∧
    cacheLookup [(2047, block11), (0xFFFFFFFF, block11)] 2047 = some block11 ∧
    (2047 : SectorIndex).toNat < cardStore.geometry.totalSectors ∧
    ¬ (0xFFFFFFFF : SectorIndex).toNat < cardStore.geometry.totalSectors ∧
    cardStore.kind = .reference ∧ ({ cardStore with kind := .drawn } : Store).kind = .drawn ∧
    ({ cardStore with geometry := ⟨2, 16, 64, 256⟩ } : Store).geometry.sectorSize = 256 :=
  ⟨by decide, by simp [cacheLookup], by decide, by decide, rfl, rfl, rfl⟩

/-- The shortest and the longest response. -/
theorem witness_RespondLoadsTheBytes : 1 ≤ (List.replicate 1 (0x05 : Byte)).length ∧
    (List.replicate 516 (0x05 : Byte)).length ≤ 516 := by
  simp only [List.length_replicate]; decide

/-- An unbound card and a bound one. -/
theorem witness_CommitResult : (waiting .awaitingCommand [.commit] State.reset).CanStep ∧
    (waiting .awaitingCommand [.commit] State.reset).hostCalls = .commit :: [] ∧
    State.reset.boundStore = none ∧ (boundCard false).boundStore = some cardStore := ⟨⟨rfl, rfl⟩, rfl, rfl, rfl⟩

/-- Two entries, the last one in the last sector. -/
theorem witness_CommitPersistsOnReferenceStore :
    (waiting .awaitingCommand [.commit] (boundCard false)).CanStep ∧ cardStore.kind = .reference ∧
    cacheWf [(0, block11), (2047, block11)] = true ∧
    ∀ p ∈ [((0 : SectorIndex), block11), (2047, block11)], p.1.toNat < cardStore.geometry.totalSectors := by
  refine ⟨⟨rfl, rfl⟩, rfl, by decide, ?_⟩
  intro p h
  simp only [List.mem_cons, List.not_mem_nil, or_false] at h
  rcases h with rfl | rfl <;> decide

/-- A card in the middle of a data phase, with an entry cached and a call pending, meets the invariant. -/
theorem busyCard_inv : (waiting .awaitingData [.write 0x12]
    { withPersists true (boundCard false) with currentCommand := 24, dataCount := 511, cache := [(5, block11)] }).Inv where
  cursorInEnd := by decide
  endInBuffer := by decide
  countBounded := by decide
  countWhileReceiving := by decide
  countAfterBlock := by decide
  commandLatched := by decide
  dataPhaseIsWrite := by decide
  cacheCanonical := by decide
  cacheNeedsStore := by simp [waiting, withPersists, boundCard]
  storeUsable := by
    intro st h
    injection h with h
    subst h
    exact ⟨by decide, by decide, by decide, by decide, by decide⟩
  releasedCanonical := by decide
  callsWellFormed := by decide
  noFault := rfl

theorem witness_StepKeepsTheInvariant : ∃ s t : State, s.Inv ∧ step s = .next t := ⟨_, _, busyCard_inv, rfl⟩

theorem witness_EveryCallHasAResult : ∃ s : State, s.Inv ∧ s.CanStep := ⟨_, busyCard_inv, rfl, rfl⟩

/-- A step of any kind: EventLogIsAppendOnly and AtMostOneErrorPerCall. -/
theorem witness_steps : ∃ t, step (waiting .awaitingCommand [.write 0x41] State.reset) = .next t ∧
    t.events = [.protocolError 1] := ⟨_, rfl, by decide⟩

/-- The mark kept, and the mark set: a data phase for another command, which no run reaches. -/
theorem witness_MarksAreStickyAndParamsConstant :
    (∃ t, step (waiting .awaitingCommand [.select] { State.reset with faultMark := true }) = .next t) ∧
    (∃ t, step (waiting .awaitingDataCrc2 [.write 0] State.reset) = .next t ∧ t.faultMark = true) ∧
    (∃ s : State, s.refusedMark = true) :=
  ⟨⟨_, rfl⟩, ⟨_, rfl, by decide⟩, ⟨{ State.reset with refusedMark := true }, rfl⟩⟩

end Sys2Proof.Tests
end

section
/-! Proofs of 10_state.md: what a new Card and a built response hold, and the invariant that every step keeps. -/

namespace Sys2Proof.Machine

/-! ### The argument register -/

/-- The big-endian argument as shifts and ors (10_state R24). -/
theorem argOf_eq_shifts (a b c d : Byte) : argOf a b c d =
    (a.zeroExtend 32 <<< 24) ||| (b.zeroExtend 32 <<< 16) ||| (c.zeroExtend 32 <<< 8) ||| d.zeroExtend 32 :=
  (BitVec.setWidth_eq _).symm.trans BitVec.setWidth_append_append_append_eq_shiftLeft_setWidth_or

/-- Settles O4: the argument register is the join of its four bytes. -/
theorem argumentIsBigEndian : Obligations.ArgumentIsBigEndian :=
  fun s => argOf_eq_shifts s.argument[0] s.argument[1] s.argument[2] s.argument[3]

/-! ### A built response -/

/-- Each byte of the buffer after a load: a new one, or past them the one that stood there (10_state R28). -/
theorem Response.load_getElem (p : Response) {r : List Byte} (hr : r.length ≤ 516) {j : Nat} (h : j < 516) :
    (p.load r).buf[j] = if h' : j < r.length then r[j] else p.buf[j] := by
  rw [← Vector.getElem_toList (by simpa using h)]
  simp only [Response.load_toList p hr, List.getElem_append, List.getElem_drop, Vector.getElem_toList]
  split
  · rfl
  · congr 1; omega

/-- Settles O59: a load puts the cursor at the start, the end past its bytes, and the bytes at the buffer's start. -/
theorem respondLoadsTheBytes : Obligations.RespondLoadsTheBytes :=
  fun p _ _ hr => ⟨rfl, rfl, p.load_unread hr, fun _ h => p.load_getElem hr h⟩

/-! ### A new Card -/

/-- Settles O52: each field by its value at creation, and the step by `step_idle`. -/
theorem resetLeavesTheSpecsValues : Obligations.ResetLeavesTheSpecsValues :=
  ⟨rfl, rfl, rfl, rfl, rfl, rfl, rfl, rfl, rfl, step_idle ⟨rfl, rfl⟩ rfl⟩

/-! ### The decoder's part of the invariant -/

/-- The invariant's clauses about the decoder: a decoder state, the latched command and the byte count fit together
(10_state R23, R25; 40 R128, R131). -/
structure DecoderState.Fits (d : DecoderState) (cmd : BitVec 6) (n : Nat) : Prop where
  countBounded : n ≤ 512
  countWhileReceiving : d = .awaitingData → n < 512
  countAfterBlock : d.blockComplete = true → n = 512
  commandLatched : d ≠ .awaitingCommand → (commandOf cmd).isSome = true
  dataPhaseIsWrite : d.inDataPhase = true → cmd = cmdIndex .writeBlock

/-- A block is complete in the data phase only. -/
theorem DecoderState.inDataPhase_of_blockComplete {d : DecoderState} (h : d.blockComplete = true) :
    d.inDataPhase = true := by
  cases d
  case awaitingDataCrc1 | awaitingDataCrc2 => rfl
  all_goals cases h

/-- Between frames any command may be latched. -/
theorem DecoderState.fits_awaitingCommand {cmd : BitVec 6} {n : Nat} (hn : n ≤ 512) :
    DecoderState.awaitingCommand.Fits cmd n :=
  ⟨hn, nofun, nofun, fun h => absurd rfl h, nofun⟩

/-- Outside the data phase a supported command is enough. -/
theorem DecoderState.fits_of_not_inDataPhase {d : DecoderState} {cmd : BitVec 6} {n : Nat}
    (hd : d.inDataPhase = false) (hn : n ≤ 512) (hc : (commandOf cmd).isSome = true) : d.Fits cmd n where
  countBounded := hn
  countWhileReceiving h := by subst h; cases hd
  countAfterBlock h := by rw [inDataPhase_of_blockComplete h] at hd; cases hd
  commandLatched _ := hc
  dataPhaseIsWrite h := by rw [h] at hd; cases hd

/-- With WRITE_BLOCK latched only the count is left to look at. -/
theorem DecoderState.fits_of_writeBlock {d : DecoderState} {cmd : BitVec 6} {n : Nat} (hc : cmd = cmdIndex .writeBlock)
    (hn : n ≤ 512) (hr : d = .awaitingData → n < 512) (hb : d.blockComplete = true → n = 512) : d.Fits cmd n where
  countBounded := hn
  countWhileReceiving := hr
  countAfterBlock := hb
  commandLatched _ := by rw [hc, commandOf_cmdIndex]; rfl
  dataPhaseIsWrite _ := hc

/-- The state after an argument byte is still inside the frame. -/
@[simp] theorem afterArg_inDataPhase (k : Fin 4) : (afterArg k).inDataPhase = false := by
  unfold afterArg; split <;> rfl

/-- The next data byte either ends the block or leaves it incomplete (40 R128). -/
theorem afterDataByte_fits {d : DecoderState} {cmd : BitVec 6} {n : Nat} (hd : d = .awaitingData)
    (hc : cmd = cmdIndex .writeBlock) (hn : n < 512) :
    (if n + 1 = 512 then .awaitingDataCrc1 else d : DecoderState).Fits cmd (n + 1) := by
  split
  case isTrue hlast => exact DecoderState.fits_of_writeBlock hc hn nofun fun _ => hlast
  case isFalse hmore =>
    subst hd
    exact DecoderState.fits_of_writeBlock hc hn (fun _ => by omega) nofun

/-- The state after a frame fits the frame's own command (40 R122). -/
theorem afterFrame_fits (c : Command) {n : Nat} (hn : n ≤ 512) : (afterFrame c).Fits (cmdIndex c) n := by
  by_cases hc : c = .writeBlock
  · subst hc
    exact DecoderState.fits_of_writeBlock rfl hn nofun nofun
  · rw [afterFrame, if_neg hc]
    exact DecoderState.fits_awaitingCommand hn

/-! ### The rules of the invariant, one for each group of fields

A step writes a group of fields, and the group's rule says what the new values must meet. -/

/-- Usability of a store depends on the state's accepted sizes and capacity code alone. -/
theorem Store.Usable.congr {st : Store} {s t : State} (h : st.Usable s) (hp : t.params = s.params)
    (hc : t.capacityField = s.capacityField) : st.Usable t :=
  ⟨h.dataCanonical, hp ▸ h.sizeAccepted, h.wholeUnits, h.notEmpty, hc ▸ h.capacity⟩

namespace State.Inv

variable {s : State} (h : s.Inv)
include h

/-- The fields that the invariant does not mention may take any values. -/
theorem setFree {idle : Bool} {arg : Vector Byte 4} {buf : Vector Byte 512} {es : List Event} {refused : Bool}
    {n : Nat} {rs : List HostResult} {gone : Bool} :
    ({ s with idle := idle, argument := arg, sendBuffer := buf, events := es, refusedMark := refused, draws := n,
              results := rs, destroyed := gone } : State).Inv :=
  { h with storeUsable := fun st hb => (h.storeUsable st hb).congr rfl rfl }

/-- The decoder's fields may take any values that fit together. -/
theorem setPhase {d : DecoderState} {cmd : BitVec 6} {n : Nat} (hf : d.Fits cmd n) :
    ({ s with decoderState := d, currentCommand := cmd, dataCount := n } : State).Inv :=
  { hf, h with storeUsable := fun st hb => (h.storeUsable st hb).congr rfl rfl }

/-- The response may be any one with its cursor inside its end and its end inside the buffer (10_state R29). -/
theorem setResponse {p : Response} (hc : p.cursor ≤ p.endPos) (he : p.endPos ≤ 516) :
    ({ s with response := p } : State).Inv :=
  { h with
    cursorInEnd := hc
    endInBuffer := he
    storeUsable := fun st hb => (h.storeUsable st hb).congr rfl rfl }

/-- The store, its capacity code, the cache and the released stores may take any values with a canonical cache, none on
an unbound card, and usable stores (10_state R30; 42 R207; 43 R221 to R223). -/
theorem setStorage {o : Option Store} {cap : BitVec 16} {c : List (SectorIndex × Sector)} {rel : List Store}
    (hc : cacheWf c = true) (hn : o = none → c = [])
    (hu : ∀ st, o = some st → st.Usable { s with capacityField := cap }) (hr : ∀ st ∈ rel, st.data.wf = true) :
    ({ s with boundStore := o, capacityField := cap, cache := c, released := rel } : State).Inv :=
  { h with
    cacheCanonical := hc
    cacheNeedsStore := hn
    storeUsable := fun st hb => (hu st hb).congr rfl rfl
    releasedCanonical := hr }

/-- Taking the next call leaves the rest of them, and its own image is canonical. -/
theorem setCalls_tail {c : HostCall} {rest : List HostCall} (hc : s.hostCalls = c :: rest) :
    c.wellFormed = true ∧ (s.setCalls rest).Inv := by
  have hw := List.forall_mem_cons.mp (hc ▸ h.callsWellFormed)
  exact ⟨hw.1, { h with
    callsWellFormed := hw.2
    storeUsable := fun st hb => (h.storeUsable st hb).congr rfl rfl }⟩

/-! #### The rules at the named operations -/

/-- Only the decoder's state is written. -/
theorem setDecoder {d : DecoderState} (hf : d.Fits s.currentCommand s.dataCount) : (s.setDecoder d).Inv :=
  h.setPhase hf

/-- A response of at most 516 bytes is built. -/
theorem respond {r : List Byte} (hr : r.length ≤ 516) : (s.respond r).Inv :=
  h.setResponse (Nat.zero_le _) hr

/-- Only the cache of a bound card is written. -/
theorem setCache {st : Store} (hb : s.boundStore = some st) {c : List (SectorIndex × Sector)} (hc : cacheWf c = true) :
    (s.setCache c).Inv :=
  h.setStorage hc (fun hn => by rw [hn] at hb; cases hb) h.storeUsable h.releasedCanonical

end State.Inv

/-- Settles O53: every clause holds of a new Card, whose response and cache are empty. -/
theorem resetMeetsTheInvariant : Obligations.ResetMeetsTheInvariant where
  cursorInEnd := Nat.le_refl _
  endInBuffer := Nat.zero_le _
  countBounded := Nat.zero_le _
  countWhileReceiving := nofun
  countAfterBlock := nofun
  commandLatched h := absurd rfl h
  dataPhaseIsWrite := nofun
  cacheCanonical := rfl
  cacheNeedsStore _ := rfl
  storeUsable := nofun
  releasedCanonical := nofun
  callsWellFormed := nofun
  noFault := rfl

/-! ### The cache's canonical form -/

/-- The canonical form as a proposition. -/
theorem cacheWf_iff (c : List (SectorIndex × Sector)) : cacheWf c = true ↔ c.Pairwise (fun a b => a.1 < b.1) := by
  simp [cacheWf]

/-- A put adds no entry but its own. -/
theorem mem_cachePut {c : List (SectorIndex × Sector)} {i : SectorIndex} {e : Sector} {p : SectorIndex × Sector}
    (h : p ∈ cachePut c i e) : p = (i, e) ∨ p ∈ c := by
  induction c with
  | nil => simpa [cachePut] using h
  | cons q c ih =>
    obtain ⟨k, f⟩ := q
    rw [cachePut] at h
    split at h
    · exact List.mem_cons.mp h
    · split at h
      · exact (List.mem_cons.mp h).imp_right (List.mem_cons_of_mem _)
      · rcases List.mem_cons.mp h with rfl | h
        · exact .inr List.mem_cons_self
        · exact (ih h).imp_right (List.mem_cons_of_mem _)

/-- A put keeps the cache canonical (42 R205). -/
theorem cachePut_wf {c : List (SectorIndex × Sector)} (h : cacheWf c = true) (i : SectorIndex) (e : Sector) :
    cacheWf (cachePut c i e) = true := by
  rw [cacheWf_iff] at h ⊢
  induction c with
  | nil => simp [cachePut]
  | cons q c ih =>
    obtain ⟨k, f⟩ := q
    obtain ⟨hk, hc⟩ := List.pairwise_cons.mp h
    rw [cachePut]
    split
    · rename_i hik
      refine h.cons fun p hp => ?_
      rcases List.mem_cons.mp hp with rfl | hp
      · exact hik
      · exact BitVec.lt_trans hik (hk p hp)
    · rename_i hik
      split
      · rename_i hki
        subst hki
        exact hc.cons hk
      · rename_i hne
        have hki : k < i := BitVec.lt_of_le_ne (BitVec.not_lt.mp hik) hne
        refine (ih hc).cons fun p hp => ?_
        rcases mem_cachePut hp with rfl | hp
        · exact hki
        · exact hk p hp

/-- What a commit keeps of the cache is canonical (42 R208). -/
theorem committedCache_wf {s : State} (h : cacheWf s.cache = true) (failed : List SectorIndex) :
    cacheWf (committedCache s failed) = true := by
  unfold committedCache
  split
  · rw [cacheWf_iff] at h ⊢
    exact h.filter _
  · exact h

/-! ### The commands -/

/-- What a command does on a bound card (41_commands R153 to R161). -/
def commandEffect : Command → Store → State → State
  | .goIdleState => fun _ c => encStatus (c.setIdle true)
  | .sendIfCond => fun _ c => encStatusEcho (ifCondEcho c) c
  | .sendCsd => fun _ c => encDataBlock (csdPayload c.capacityField) c
  | .sendCid => fun _ c => encDataBlock cidPayload c
  | .readSingleBlock => readBlockEffect
  | .writeBlock => fun _ c => encStatus c
  | .appSendOpCond => fun _ c => encStatus (c.setIdle false)
  | .appCmd => fun _ c => encStatus c
  | .readOcr => fun _ c => encStatusEcho ocrValue c

/-- The meaning of a frame is the end of a frame with its command's effect. -/
theorem exec_instr (c : Command) (arg : BitVec 32) (crc : Byte) (s : State) :
    exec (c.instr arg crc) s = completeFrame c arg (commandEffect c) s := by
  cases c <;> rfl

/-- Everything READ_SINGLE_BLOCK does on a bound card (41 R157): a sector answered or an error reported, and perhaps a
draw taken. -/
theorem readBlockEffect_cases (st : Store) (s : State) : ∃ n,
    (∃ p : Sector, readBlockEffect st s = encDataBlock p.toList (s.setDraws n)) ∨
    readBlockEffect st s = (s.setDraws n).report (.ioError .read (arg32 s)) := by
  rcases sectorRead_cases (arg32 s) st s with ⟨e, -, he⟩ | ⟨-, he⟩
  · exact ⟨s.draws, .inl ⟨logicalSector st e, by rw [readBlockEffect, he]; rfl⟩⟩
  · refine ⟨s.draws + 1, ?_⟩
    cases hr : st.read s.draws (arg32 s) with
    | none => exact .inr (by rw [readBlockEffect, he, hr]; rfl)
    | some p => exact .inl ⟨logicalSector st p, by rw [readBlockEffect, he, hr]; rfl⟩

/-- No command's effect writes the latched command. -/
@[simp] theorem commandEffect_currentCommand (c : Command) (st : Store) (s : State) :
    (commandEffect c st s).currentCommand = s.currentCommand := by
  cases c
  case readSingleBlock =>
    obtain ⟨n, ⟨p, h⟩ | h⟩ := readBlockEffect_cases st s <;> rw [commandEffect, h] <;> rfl
  all_goals rfl

/-- A register is padded to a data block of 512 bytes (D14). -/
theorem registerPayload_length {r : List Byte} (hr : r.length ≤ 512) : (registerPayload r).length = 512 := by
  simp [registerPayload, csdCidPayloadLen, hr]

section encoders
variable {s : State} (h : s.Inv)
include h

theorem encStatus_keeps_inv : (encStatus s).Inv := h.respond (by simp)

theorem encStatusEcho_keeps_inv (v : BitVec 32) : (encStatusEcho v s).Inv := h.respond (by simp [bytes32])

/-- A data block of 512 bytes fills the response buffer (10_state R28). -/
theorem encDataBlock_keeps_inv {p : List Byte} (hp : p.length = 512) : (encDataBlock p s).Inv :=
  h.respond (by simp [hp])

theorem encDataAck_keeps_inv : (encDataAck s).Inv := h.respond (by simp)

end encoders

/-- Every command's effect keeps the invariant. -/
theorem commandEffect_keeps_inv (c : Command) (st : Store) {s : State} (h : s.Inv) : (commandEffect c st s).Inv := by
  cases c with
  | goIdleState => exact encStatus_keeps_inv h.setFree
  | sendIfCond => exact encStatusEcho_keeps_inv h _
  | sendCsd => exact encDataBlock_keeps_inv h (registerPayload_length (by simp [csdRegister]))
  | sendCid => exact encDataBlock_keeps_inv h (registerPayload_length (by simp [cidRegister]))
  | readSingleBlock =>
    obtain ⟨n, ⟨p, he⟩ | he⟩ := readBlockEffect_cases st s <;> rw [commandEffect, he]
    · exact encDataBlock_keeps_inv h.setFree (by simp)
    · exact h.setFree
  | writeBlock => exact encStatus_keeps_inv h
  | appSendOpCond => exact encStatus_keeps_inv h.setFree
  | appCmd => exact encStatus_keeps_inv h
  | readOcr => exact encStatusEcho_keeps_inv h _

/-- Dispatch keeps the invariant and the latched command, bound or not (41 R150). -/
theorem dispatch_keeps_inv (c : Command) {s : State} (h : s.Inv) :
    (dispatch (commandEffect c) s).Inv ∧ (dispatch (commandEffect c) s).currentCommand = s.currentCommand := by
  cases hb : s.boundStore with
  | none => rw [dispatch_unbound hb]; exact ⟨h, rfl⟩
  | some st => rw [dispatch_bound hb]; exact ⟨commandEffect_keeps_inv c st h, commandEffect_currentCommand c st s⟩

/-- A command frame outside the data phase keeps the invariant (40 R122). -/
theorem exec_instr_keeps_inv {s t : State} (h : s.Inv) (hd : s.decoderState.inDataPhase = false) {c : Command}
    {arg : BitVec 32} {crc : Byte} (he : exec (c.instr arg crc) s = .next t) : t.Inv := by
  rw [exec_instr, completeFrame] at he
  injection he with he
  subst he
  have hfits : s.decoderState.Fits (cmdIndex c) s.dataCount :=
    DecoderState.fits_of_not_inDataPhase hd h.countBounded (by simp)
  have hlatch : (s.latchFrame (cmdIndex c) arg).Inv := (h.setPhase hfits).setFree
  obtain ⟨hinv, hcmd⟩ := dispatch_keeps_inv c hlatch
  exact hinv.setDecoder (hcmd ▸ afterFrame_fits c hinv.countBounded)

/-! ### The bytes the host writes -/

/-- A command byte keeps the invariant: what is latched is supported (40 R120). -/
theorem acceptCommandByte_keeps_inv {s : State} (h : s.Inv) (b : Byte) : (acceptCommandByte b s).Inv := by
  rcases acceptCommandByte_cases b s with ⟨-, ht⟩ | ⟨-, -, ht⟩ | ⟨-, ⟨c, hc⟩, ht⟩ <;> rw [ht]
  · exact h
  · exact h.setFree
  · exact h.setPhase (DecoderState.fits_of_not_inDataPhase rfl h.countBounded (by simp [hc]))

/-- An argument byte keeps the invariant (40 R121). -/
theorem acceptArgByte_keeps_inv {s : State} (h : s.Inv) {k : Fin 4} (hd : s.decoderState = .awaitingArg k) (b : Byte) :
    (acceptArgByte k b s).Inv :=
  have hc := h.commandLatched (by simp [hd])
  h.setFree.setDecoder (DecoderState.fits_of_not_inDataPhase (afterArg_inDataPhase k) h.countBounded hc)

/-- Data-phase execution keeps the invariant: WRITE_BLOCK is latched, so no LogicError is raised (42 R210). -/
theorem executeDataPhase_keeps_inv {s : State} (h : s.Inv) (hw : s.currentCommand = cmdIndex .writeBlock) :
    (executeDataPhase s).Inv := by
  rcases executeDataPhase_cases s with ⟨hne, -⟩ | ⟨-, -, he⟩ | ⟨-, st, hb, he⟩
  · exact absurd hw hne
  · rw [he]; exact h
  · rw [he]
    exact encDataAck_keeps_inv (h.setCache hb (cachePut_wf h.cacheCanonical _ _))

/-- A written byte keeps the invariant, in each of the decoder's states (40 R133). -/
theorem writeByte_keeps_inv {s t : State} (h : s.Inv) {b : Byte} (ht : writeByte b s = .next t) : t.Inv := by
  have hwrite := h.dataPhaseIsWrite
  rcases writeByte_cases ht with ⟨-, rfl⟩ | ⟨k, hd, rfl⟩ | ⟨hd, c, -, he⟩ | ⟨hd, rfl | rfl⟩ | ⟨hd, hn, rfl⟩ |
    ⟨hd, rfl⟩ | ⟨hd, rfl⟩
  · exact acceptCommandByte_keeps_inv h b
  · exact acceptArgByte_keeps_inv h hd b
  · exact exec_instr_keeps_inv h (by rw [hd]; rfl) he
  · exact h
  · exact h.setPhase (DecoderState.fits_of_writeBlock (hwrite (by rw [hd]; rfl)) (Nat.zero_le _) (by simp) nofun)
  · exact (h.setPhase (afterDataByte_fits hd (hwrite (by rw [hd]; rfl)) hn)).setFree
  · exact h.setDecoder (DecoderState.fits_of_writeBlock (hwrite (by rw [hd]; rfl)) h.countBounded nofun
      fun _ => h.countAfterBlock (by rw [hd]; rfl))
  · have hx := executeDataPhase_keeps_inv h (hwrite (by rw [hd]; rfl))
    exact hx.setDecoder (DecoderState.fits_awaitingCommand hx.countBounded)

/-! ### The other calls -/

/-- A reset keeps the invariant (44 R231). -/
theorem select_keeps_inv {s : State} (h : s.Inv) : (select s).Inv :=
  (h.setDecoder (DecoderState.fits_awaitingCommand h.countBounded)).setResponse (Nat.le_refl _) (Nat.zero_le _)

/-- A read keeps the invariant: the cursor moves only while it is below the end (44 R233). -/
theorem readByte_keeps_inv {s t : State} (h : s.Inv) (ht : readByte s = .next t) : t.Inv := by
  rcases readByte_cases s with ⟨_, hlt, hr⟩ | ⟨_, hr⟩ | ⟨_, _, hr⟩ <;> rw [hr] at ht <;> cases ht
  · exact (h.setResponse (p := { s.response with cursor := s.response.cursor + 1 }) hlt h.endInBuffer).setFree
  · exact h.setFree

/-- A commit's writes leave a bound store usable (42 R208). -/
theorem commitRun_usable {st : Store} {s : State} (h : st.Usable s) : (commitRun st s).store.Usable s := by
  obtain ⟨hg, -⟩ := writeAll_geometry (drawnOrder s.draws s.cache) st (s.draws + s.cache.length)
  refine ⟨writeAll_wf _ _ h.dataCanonical, ?_, ?_, ?_, ?_⟩ <;> rw [commitRun, hg]
  · exact h.sizeAccepted
  · exact h.wholeUnits
  · exact h.notEmpty
  · exact h.capacity

/-- A commit keeps the invariant (44 R237). -/
theorem commit_keeps_inv {s : State} (h : s.Inv) : (commit s).Inv := by
  cases hb : s.boundStore with
  | none => rw [commit_unbound hb]; exact h.setFree
  | some st =>
    have hu := commitRun_usable (h.storeUsable st hb)
    rw [commit_bound hb, cacheCommit_snd]
    refine (h.setStorage (o := some (commitRun st s).store) (committedCache_wf h.cacheCanonical _) nofun ?_
      h.releasedCanonical).setFree
    rintro _ ⟨⟩
    exact hu

/-- An eject keeps the invariant: it leaves an unbound card with an empty cache (44 R235). -/
theorem eject_keeps_inv {s : State} (h : s.Inv) : (eject s).Inv := by
  obtain ⟨rel, es, n, he, -, hrel⟩ := eject_cases s
  have hcache : (if s.boundStore.isSome then [] else s.cache) = [] := by
    cases hb : s.boundStore with
    | none => exact h.cacheNeedsStore hb
    | some st => rfl
  have hreleased : ∀ st ∈ rel ++ s.released, st.data.wf = true :=
    List.forall_mem_append.mpr ⟨hrel fun st hb => (h.storeUsable st hb).dataCanonical, h.releasedCanonical⟩
  rw [he, hcache]
  exact ((select_keeps_inv h).setStorage rfl (fun _ => rfl) (fun _ hb => by cases hb) hreleased).setFree

/-- Binding a store that passed validation keeps the invariant (43 R221 to R224). -/
theorem bindStore_keeps_inv {s : State} (h : s.Inv) {st : Store} (hw : st.data.wf = true)
    (hs : st.geometry.sectorSize ∈ s.params.acceptedSectorSizes) (hm : st.geometry.totalSectors % 1024 = 0)
    (hz : st.geometry.totalSectors ≠ 0) : (bindStore st s).Inv := by
  refine (h.setStorage (o := some st) (c := []) rfl nofun ?_ h.releasedCanonical).setFree
  rintro _ ⟨⟩
  exact ⟨hw, hs, hm, hz, capacityOf_toNat _⟩

/-- An insert of a canonical image on an unbound card keeps the invariant (43 R224). -/
theorem insertUnbound_keeps_inv {s : State} (h : s.Inv) {o : OpenResult}
    (ho : (HostCall.insert o).wellFormed = true) : (insertUnbound o s).Inv := by
  rcases insertUnbound_cases o s with ⟨d, rel, hrel, ht⟩ | ⟨st, -, ht⟩ | ⟨st, rfl, hs, hm, hz, ht⟩ <;> rw [ht]
  · have hwf : ∀ st ∈ rel, st.data.wf = true := by
      rcases hrel with rfl | ⟨st, rfl, rfl⟩
      · nofun
      · exact List.forall_mem_singleton.mpr ho
    exact (h.setStorage h.cacheCanonical h.cacheNeedsStore h.storeUsable
      (List.forall_mem_append.mpr ⟨hwf, h.releasedCanonical⟩)).setFree
  · exact h.setFree
  · exact bindStore_keeps_inv h ho hs hm hz

/-- An insert of a canonical image keeps the invariant, bound or not (43 R224). -/
theorem insertPath_keeps_inv {s : State} (h : s.Inv) {o : OpenResult} (ho : (HostCall.insert o).wellFormed = true) :
    (insertPath o s).Inv := by
  cases hb : s.boundStore with
  | none => rw [insertPath_unbound hb]; exact insertUnbound_keeps_inv h ho
  | some st => rw [insertPath_bound hb]; exact insertUnbound_keeps_inv (eject_keeps_inv h) ho

/-- Every call keeps the invariant. -/
theorem runCall_keeps_inv {s t : State} (h : s.Inv) {c : HostCall} (hc : c.wellFormed = true)
    (ht : runCall c s = .next t) : t.Inv := by
  cases c with
  | write b => exact writeByte_keeps_inv h ht
  | read => exact readByte_keeps_inv h ht
  | select => cases ht; exact select_keeps_inv h
  | insert o => cases ht; exact insertPath_keeps_inv h hc
  | eject => cases ht; exact eject_keeps_inv h
  | isDirty => cases ht; exact h.setFree
  | commit => cases ht; exact commit_keeps_inv h
  | destroy => cases ht; exact (eject_keeps_inv h).setFree

/-- Settles O54: a step is one call, taken from the queue and run, and each call keeps the invariant. -/
theorem stepKeepsTheInvariant : Obligations.StepKeepsTheInvariant := by
  intro s t h ht
  obtain ⟨-, ⟨-, rfl⟩ | ⟨c, rest, hc, hrun⟩⟩ := step_cases ht
  · exact h
  · obtain ⟨hw, hinv⟩ := h.setCalls_tail hc
    exact runCall_keeps_inv hinv hw hrun

end Sys2Proof.Machine
end

section
/-! Proofs of 20_memory.md: the written block reaches the cache and is read back from there. On the way: what the six
bytes of any frame and the 515 bytes of any data phase do, as one transition each. -/

namespace Sys2Proof.Machine

/-! ### The cache and the layouts of an entry -/

/-- A lookup after a put, whatever order the cache is in (42 R204, R205). -/
theorem cacheLookup_cachePut (c : List (SectorIndex × Sector)) (i j : SectorIndex) (e : Sector) :
    cacheLookup (cachePut c i e) j = if j = i then some e else cacheLookup c j := by
  induction c with
  | nil => simp [cachePut, cacheLookup, eq_comm]
  | cons q c ih =>
    obtain ⟨k, f⟩ := q
    rw [cachePut]
    split
    case isTrue => simp [cacheLookup, eq_comm]
    case isFalse =>
      split
      case isTrue hki =>
        subst hki
        by_cases hj : j = k
        · simp [cacheLookup, hj]
        · simp [cacheLookup, hj, Ne.symm hj]
      case isFalse hki =>
        rw [cacheLookup, cacheLookup, ih]
        by_cases hj : k = j
        · subst hj; simp [hki]
        · simp [hj]

/-- What a packed sector unpacks to: the even-indexed bytes, and 0xFF at the odd indices (42 R201, R203). -/
theorem unpack256_pack256_getElem (e p : Sector) {j : Nat} (h : j < 512) :
    (unpack256 (pack256 e p))[j] = if j % 2 = 1 then (0xFF : Byte) else p[j] := by
  rcases Nat.mod_two_eq_zero_or_one j with hj | hj
  · have hhalf : j / 2 < 256 := by omega
    have hdouble : 2 * (j / 2) = j := by omega
    simp [unpack256, pack256, hj, hhalf, hdouble]
  · simp [unpack256, hj]

/-- The sector an entry answers after a write of `p`, for both sizes of physical sector (42 R200, R202). -/
theorem logicalSector_writtenEntry_getElem (st : Store) (old : Option Sector) (p : Sector) {j : Nat} (h : j < 512) :
    (logicalSector st (writtenEntry st old p))[j] =
      if st.geometry.sectorSize = 256 ∧ j % 2 = 1 then (0xFF : Byte) else p[j] := by
  by_cases hs : st.geometry.sectorSize = 256
  · simp [logicalSector, writtenEntry, hs, unpack256_pack256_getElem]
  · simp [logicalSector, writtenEntry, hs]

/-- READ_SINGLE_BLOCK of a cached sector makes no store call and reports nothing (41 R157, 42 R200). -/
theorem readBlockEffect_hit {s : State} {e : Sector} (h : cacheLookup s.cache (arg32 s) = some e) (st : Store) :
    readBlockEffect st s = encDataBlock (logicalSector st e).toList s := by
  simp [readBlockEffect, sectorRead, h]

/-! ### A command frame, byte by byte -/

/-- The command byte of a supported command is latched (40 R120). -/
@[simp] theorem acceptCommandByte_commandByte (c : Command) (s : State) :
    acceptCommandByte (commandByte (cmdIndex c)) s = (s.setCurrent (cmdIndex c)).setDecoder (.awaitingArg 0) := by
  simp [acceptCommandByte]

/-! The operations of a frame and of a data phase leave the Card able to step. -/

section canStep
variable (s : State)
@[simp] theorem State.setDecoder_canStep (d : DecoderState) : (s.setDecoder d).CanStep ↔ s.CanStep := Iff.rfl
@[simp] theorem State.setCalls_canStep (l : List HostCall) : (s.setCalls l).CanStep ↔ s.CanStep := Iff.rfl
@[simp] theorem State.setCurrent_canStep (idx : BitVec 6) : (s.setCurrent idx).CanStep ↔ s.CanStep := Iff.rfl
@[simp] theorem State.setArgByte_canStep (k : Fin 4) (b : Byte) : (s.setArgByte k b).CanStep ↔ s.CanStep := Iff.rfl
@[simp] theorem State.latchFrame_canStep (idx : BitVec 6) (arg : BitVec 32) :
    (s.latchFrame idx arg).CanStep ↔ s.CanStep := Iff.rfl
@[simp] theorem State.setSend_canStep (buf : Sector) : (s.setSend buf).CanStep ↔ s.CanStep := Iff.rfl
@[simp] theorem State.setCount_canStep (n : Nat) : (s.setCount n).CanStep ↔ s.CanStep := Iff.rfl
@[simp] theorem State.setCache_canStep (c : List (SectorIndex × Sector)) :
    (s.setCache c).CanStep ↔ s.CanStep := Iff.rfl
@[simp] theorem State.respond_canStep (r : List Byte) : (s.respond r).CanStep ↔ s.CanStep := Iff.rfl
end canStep

/-- A run whose first call is a write: that byte's transition, then the rest. -/
theorem runSteps_write {s t : State} (h : s.CanStep) {b : Byte} {rest : List HostCall}
    (hc : s.hostCalls = .write b :: rest) (ht : writeByte b (s.setCalls rest) = .next t) (k : Nat) :
    runSteps (k + 1) s = runSteps k t :=
  runSteps_succ k ((step_call h hc).trans ht)

/-- Four sets fill the argument register. -/
theorem argument_set_all (v : Vector Byte 4) (a0 a1 a2 a3 : Byte) :
    (((v.set 0 a0).set 1 a1).set 2 a2).set 3 a3 = #v[a0, a1, a2, a3] := by
  ext j hj
  interval_cases j <;> simp

/-- An argument byte leaves the Card able to step. -/
theorem State.CanStep.acceptArgByte {s : State} (h : s.CanStep) (k : Fin 4) (b : Byte) (rest : List HostCall) :
    (acceptArgByte k b (s.setCalls rest)).CanStep := by
  simpa [Machine.acceptArgByte] using h

/-- Four argument bytes fill the argument register (40 R121). -/
theorem runSteps_args {s : State} (h : s.CanStep) (hd : s.decoderState = .awaitingArg 0) (a0 a1 a2 a3 : Byte)
    {rest : List HostCall} (hc : s.hostCalls = callsWrite [a0, a1, a2, a3] ++ rest) :
    runSteps 4 s =
      .next { s with hostCalls := rest, argument := #v[a0, a1, a2, a3], decoderState := .awaitingCrc } := by
  have h1 := h.acceptArgByte 0 a0 (callsWrite [a1, a2, a3] ++ rest)
  have h2 := h1.acceptArgByte 1 a1 (callsWrite [a2, a3] ++ rest)
  have h3 := h2.acceptArgByte 2 a2 (callsWrite [a3] ++ rest)
  refine (runSteps_write h hc (writeByte_arg (by exact hd) a0) 3).trans ?_
  refine (runSteps_write h1 rfl (writeByte_arg rfl a1) 2).trans ?_
  refine (runSteps_write h2 rfl (writeByte_arg rfl a2) 1).trans ?_
  refine (runSteps_write h3 rfl (writeByte_arg rfl a3) 0).trans ?_
  simp [acceptArgByte, afterArg, State.setArgByte, State.setCalls, State.setDecoder, argument_set_all]

/-- The first five bytes of a frame leave it latched, with only the CRC byte to come (40 R120, R121). -/
theorem runSteps_latchFrame {s : State} (h : s.CanStep) (hd : s.decoderState = .awaitingCommand) (c : Command)
    (arg : BitVec 32) (crc : Byte) {rest : List HostCall}
    (hc : s.hostCalls = callsWrite (encodeFrame c arg crc) ++ rest) :
    runSteps 5 s =
      .next (((s.latchFrame (cmdIndex c) arg).setDecoder .awaitingCrc).setCalls (.write crc :: rest)) := by
  refine (runSteps_write h hc (writeByte_command (by exact hd) _) 4).trans ?_
  rw [acceptCommandByte_commandByte]
  exact runSteps_args (by simpa using h) rfl _ _ _ _ rfl

/-! The argument is read from its register alone. -/

@[simp] theorem arg32_setCalls (s : State) (l : List HostCall) : arg32 (s.setCalls l) = arg32 s := rfl
@[simp] theorem arg32_setDecoder (s : State) (d : DecoderState) : arg32 (s.setDecoder d) = arg32 s := rfl
@[simp] theorem arg32_respond (s : State) (r : List Byte) : arg32 (s.respond r) = arg32 s := rfl

/-- No command's effect looks at the decoder's state. -/
theorem commandEffect_setDecoder (c : Command) (st : Store) (s : State) (d : DecoderState) :
    commandEffect c st (s.setDecoder d) = (commandEffect c st s).setDecoder d := by
  cases c
  case readSingleBlock =>
    simp only [commandEffect, readBlockEffect, sectorRead, State.setDecoder_cache, State.setDecoder_draws,
      arg32_setDecoder]
    cases cacheLookup s.cache (arg32 s) with
    | some e => rfl
    | none => cases st.read s.draws (arg32 s) <;> rfl
  all_goals rfl

/-- A frame's meaning is the same once its own bytes are latched and the decoder waits for the CRC byte. -/
theorem exec_instr_latched (c : Command) (arg : BitVec 32) (crc : Byte) (s : State) (d : DecoderState) :
    exec (c.instr arg crc) ((s.latchFrame (cmdIndex c) arg).setDecoder d) = exec (c.instr arg crc) s := by
  have hlatch : ((s.latchFrame (cmdIndex c) arg).setDecoder d).latchFrame (cmdIndex c) arg =
      (s.latchFrame (cmdIndex c) arg).setDecoder d := rfl
  rw [exec_instr, exec_instr]
  cases hb : s.boundStore with
  | none => rw [completeFrame_unbound (by exact hb), completeFrame_unbound hb, hlatch]; rfl
  | some st =>
    rw [completeFrame_bound (by exact hb), completeFrame_bound hb, hlatch, commandEffect_setDecoder]; rfl

/-- The six bytes of a frame, written from AwaitingCommand, run its instruction (40 R120 to R122). -/
theorem runSteps_frame {s : State} (h : s.CanStep) (hd : s.decoderState = .awaitingCommand) (c : Command)
    (arg : BitVec 32) (crc : Byte) {rest : List HostCall}
    (hc : s.hostCalls = callsWrite (encodeFrame c arg crc) ++ rest) :
    runSteps 6 s = exec (c.instr arg crc) (s.setCalls rest) := by
  rw [runSteps_add 5 1 (runSteps_latchFrame h hd c arg crc hc), runSteps_one, step_call (by simpa using h) rfl,
    runCall_write, writeByte_crc rfl, runFrame_supported (commandOf_cmdIndex c)]
  simp only [arg32_setCalls, arg32_setDecoder, arg32_latchFrame]
  exact exec_instr_latched c arg crc (s.setCalls rest) .awaitingCrc

/-- The same on a bound card, as a next state (41 R150). -/
theorem runSteps_frame_bound {s : State} (h : s.CanStep) (hd : s.decoderState = .awaitingCommand) {st : Store}
    (hb : s.boundStore = some st) (c : Command) (arg : BitVec 32) (crc : Byte) {rest : List HostCall}
    (hc : s.hostCalls = callsWrite (encodeFrame c arg crc) ++ rest) :
    runSteps 6 s =
      .next ((commandEffect c st ((s.setCalls rest).latchFrame (cmdIndex c) arg)).setDecoder (afterFrame c)) := by
  rw [runSteps_frame h hd c arg crc hc, exec_instr, completeFrame_bound (by exact hb)]

/-! ### The data phase, byte by byte -/

/-- A send buffer after the first `n` bytes of the block `p` (40 R128). -/
def receivedBytes (buf p : Sector) (n : Nat) : Sector := Vector.ofFn fun j => if j.1 < n then p[j] else buf[j]

/-- Nothing received leaves the buffer. -/
@[simp] theorem receivedBytes_zero (buf p : Sector) : receivedBytes buf p 0 = buf := by
  ext j hj; simp [receivedBytes]

/-- All bytes received are the block. -/
@[simp] theorem receivedBytes_all (buf p : Sector) : receivedBytes buf p 512 = p := by
  ext j hj; simp [receivedBytes]

/-- The next byte stands at its own place. -/
theorem receivedBytes_succ (buf p : Sector) {n : Nat} (hn : n < 512) :
    (receivedBytes buf p n).set n p[n] = receivedBytes buf p (n + 1) := by
  ext j hj
  simp only [receivedBytes, Vector.getElem_set, Vector.getElem_ofFn]
  by_cases hjn : n = j
  · subst hjn; simp
  · have : j < n + 1 ↔ j < n := by omega
    simp [hjn, this]

/-- The card inside a data phase: the first `n` bytes of the block `p` received, the others pending, and `rest` after
them (40 R128). -/
def State.receiving (s : State) (p : Sector) (rest : List HostCall) (n : Nat) : State :=
  { s with
    hostCalls := callsWrite (p.toList.drop n) ++ rest
    sendBuffer := receivedBytes s.sendBuffer p n
    dataCount := n
    decoderState := if n = 512 then .awaitingDataCrc1 else .awaitingData }

@[simp] theorem State.receiving_canStep (s : State) (p : Sector) (rest : List HostCall) (n : Nat) :
    (s.receiving p rest n).CanStep ↔ s.CanStep := Iff.rfl

/-- Each data byte is one step inside the data phase. -/
theorem step_receiving {s : State} (h : s.CanStep) (p : Sector) (rest : List HostCall) {n : Nat} (hn : n < 512) :
    step (s.receiving p rest n) = .next (s.receiving p rest (n + 1)) := by
  have hd : (s.receiving p rest n).decoderState = .awaitingData := if_neg hn.ne
  have hc : (s.receiving p rest n).hostCalls =
      .write p[n] :: (callsWrite (p.toList.drop (n + 1)) ++ rest) := by
    simp [State.receiving, callsWrite, List.drop_eq_getElem_cons, hn]
  rw [step_call (by simpa using h) hc, runCall_write, writeByte_data (by exact hd), acceptDataByte_next (by exact hn)]
  simp [State.receiving, receivedBytes_succ, hn.ne]

/-- The first `n` of the 512 data bytes. -/
theorem runSteps_receiving {s : State} (h : s.CanStep) (p : Sector) (rest : List HostCall) {n : Nat} (hn : n ≤ 512) :
    runSteps n (s.receiving p rest 0) = .next (s.receiving p rest n) := by
  induction n with
  | zero => rfl
  | succ n ih => rw [runSteps_add n 1 (ih (by omega)), runSteps_one, step_receiving h p rest hn]

/-- The token opens the data phase with no byte received (40 R127). -/
theorem step_dataToken {s : State} (h : s.CanStep) (hd : s.decoderState = .awaitingDataToken) (p : Sector)
    {rest : List HostCall} (hc : s.hostCalls = .write dataTokenByte :: (callsWrite p.toList ++ rest)) :
    step s = .next (s.receiving p rest 0) := by
  rw [step_call h hc, runCall_write, writeByte_token (by exact hd), awaitToken_eq, if_pos rfl]
  simp [exec, execDataToken, hd, State.receiving, State.setCalls, State.setCount, State.setDecoder]

/-- Data-phase execution on a bound card caches the received block and acknowledges it (42 R210). -/
theorem executeDataPhase_bound {s : State} {st : Store} (hw : s.currentCommand = cmdIndex .writeBlock)
    (hb : s.boundStore = some st) :
    executeDataPhase s = encDataAck (sectorWrite (arg32 s) s.sendBuffer st s) := by
  simp [executeDataPhase, hw, hb]

/-- After the block come two bytes in the place of its CRC; the second one executes the data phase (40 R129, R130). -/
theorem runSteps_dataCrc {s : State} (h : s.CanStep) (hd : s.decoderState = .awaitingDataCrc1)
    {c1 c2 : Byte} {rest : List HostCall} (hc : s.hostCalls = .write c1 :: .write c2 :: rest) :
    runSteps 2 s = .next ((executeDataPhase ((s.setCalls rest).setDecoder .awaitingDataCrc2)).setDecoder
      .awaitingCommand) := by
  refine (runSteps_write h hc (writeByte_dataCrc1 (by exact hd) _) 1).trans ?_
  exact runSteps_write (by simpa using h) rfl (writeByte_dataCrc2 (by rfl) c2) 0

/-- A whole data phase on a bound card (40 R127 to R130, 42 R210): the token, 512 bytes and two CRC bytes put the block
into the cache at the latched index and build the acknowledgment. -/
theorem runSteps_dataPhase {s : State} (h : s.CanStep) (hd : s.decoderState = .awaitingDataToken)
    (hw : s.currentCommand = cmdIndex .writeBlock) {st : Store} (hb : s.boundStore = some st) (p : Sector)
    (c1 c2 : Byte) {rest : List HostCall}
    (hc : s.hostCalls = callsWrite (dataTokenByte :: (p.toList ++ [c1, c2])) ++ rest) :
    runSteps 515 s = .next ((encDataAck (sectorWrite (arg32 s) p st
      (((s.setCalls rest).setSend p).setCount 512))).setDecoder .awaitingCommand) := by
  have hc' : s.hostCalls = .write dataTokenByte :: (callsWrite p.toList ++ .write c1 :: .write c2 :: rest) := by
    rw [hc]; simp [callsWrite]
  have hlast : (s.receiving p (.write c1 :: .write c2 :: rest) 512).hostCalls = .write c1 :: .write c2 :: rest := by
    simp [State.receiving, callsWrite]
  calc runSteps 515 s
      = runSteps 514 (s.receiving p (.write c1 :: .write c2 :: rest) 0) :=
        runSteps_succ 514 (step_dataToken h hd p hc')
    _ = runSteps 2 (s.receiving p (.write c1 :: .write c2 :: rest) 512) :=
        runSteps_add 512 2 (runSteps_receiving h p _ (le_refl 512))
    _ = _ := by
        rw [runSteps_dataCrc (by simpa using h) (by rfl) hlast,
          executeDataPhase_bound (by exact hw) (by exact hb)]
        simp only [State.receiving, receivedBytes_all, encDataAck, sectorWrite]
        rfl

/-! ### The written block read back -/

/-- The frame of WRITE_BLOCK and its data phase (41 R158, 42 R202): the entry is in the cache, and the store, its draws,
the event log and `idle` are as before. -/
theorem runSteps_writeBlk {s : State} (h : s.CanStep) (hd : s.decoderState = .awaitingCommand) {st : Store}
    (hb : s.boundStore = some st) (i : SectorIndex) (p : Sector) {rest : List HostCall}
    (hc : s.hostCalls = callsWriteBlk i p ++ rest) : ∃ t : State, runSteps 521 s = .next t ∧ t.CanStep ∧
      t.decoderState = .awaitingCommand ∧ t.hostCalls = rest ∧
      cacheLookup t.cache i = some (writtenEntry st (cacheLookup s.cache i) p) ∧
      t.boundStore = s.boundStore ∧ t.draws = s.draws ∧ t.events = s.events ∧ t.idle = s.idle := by
  have hframe := runSteps_frame_bound h hd hb .writeBlock i (customaryCrc .writeBlock) (rest := callsBlock p ++ rest)
    (by rw [hc, callsWriteBlk, List.append_assoc]; rfl)
  refine ⟨_, (runSteps_add 6 515 hframe).trans (runSteps_dataPhase (by simpa [commandEffect, encStatus] using h) rfl
      rfl (by simpa [commandEffect, encStatus] using hb) p 0xFF 0xFF rfl), ?_⟩
  simpa [commandEffect, encStatus, encDataAck, sectorWrite, cacheLookup_cachePut] using h

/-- READ_SINGLE_BLOCK of a cached sector, as six writes: its block is the response, and no store call is made (42
R206). -/
theorem runSteps_readCached {s : State} (h : s.CanStep) (hd : s.decoderState = .awaitingCommand) {st : Store}
    (hb : s.boundStore = some st) {i : SectorIndex} {e : Sector} (he : cacheLookup s.cache i = some e)
    {rest : List HostCall} (hc : s.hostCalls = callsCommand .readSingleBlock i ++ rest) :
    runSteps 6 s = .next ((encDataBlock (logicalSector st e).toList
      ((s.setCalls rest).latchFrame (cmdIndex .readSingleBlock) i)).setDecoder .awaitingCommand) := by
  rw [runSteps_frame_bound h hd hb .readSingleBlock i _ hc, commandEffect, readBlockEffect_hit (by simpa using he)]
  rfl

/-- Settles O36: WRITE_BLOCK and its data phase leave the entry in the cache, and READ_SINGLE_BLOCK hits it. -/
theorem writeThenReadBack : Obligations.WriteThenReadBack := by
  intro s st i p rest h hd hb hc
  obtain ⟨t, hwrite, ht, htd, htc, hentry, htb, hdraws, hevents, hidle⟩ := runSteps_writeBlk h hd hb i p hc
  refine ⟨_, logicalSector st (writtenEntry st (cacheLookup s.cache i) p),
    fun j hj => logicalSector_writtenEntry_getElem st _ p hj,
    (runSteps_add 521 6 hwrite).trans (runSteps_readCached ht htd (htb.trans hb) hentry htc),
    rfl, rfl, ?_, hdraws, htb, hevents, hidle⟩
  rw [← statusByte_congr hidle]
  exact Response.load_unread _ (by simp)

end Sys2Proof.Machine
end

section
/-! Proofs of 30_encoding.md: decoding inverts encoding in both directions, a placed table word is the next thing run,
APP_CMD sets no mode, and the data phase fills the cache. -/

namespace Sys2Proof

/-! ### Instructions and their slots -/

/-- The instructions of the command slot are the command frames (30_encoding R70, R76). -/
theorem wellFormed_command_iff {i : Instr} :
    i.wellFormed .command = true ↔ ∃ (c : Command) (arg : BitVec 32) (crc : Byte), i = c.instr arg crc := by
  constructor
  · intro h
    cases i with
    | goIdleState arg crc => exact ⟨.goIdleState, arg, crc, rfl⟩
    | sendIfCond arg crc => exact ⟨.sendIfCond, arg, crc, rfl⟩
    | sendCsd arg crc => exact ⟨.sendCsd, arg, crc, rfl⟩
    | sendCid arg crc => exact ⟨.sendCid, arg, crc, rfl⟩
    | readSingleBlock arg crc => exact ⟨.readSingleBlock, arg, crc, rfl⟩
    | writeBlock arg crc => exact ⟨.writeBlock, arg, crc, rfl⟩
    | appSendOpCond arg crc => exact ⟨.appSendOpCond, arg, crc, rfl⟩
    | appCmd arg crc => exact ⟨.appCmd, arg, crc, rfl⟩
    | readOcr arg crc => exact ⟨.readOcr, arg, crc, rfl⟩
    | dataToken => cases h
  · rintro ⟨c, arg, crc, rfl⟩
    simp [Instr.wellFormed]

/-- The data token is the one instruction of the token slot (R72). -/
theorem wellFormed_dataToken_iff {i : Instr} : i.wellFormed .dataToken = true ↔ i = .dataToken := by
  cases i <;> simp [Instr.wellFormed, Instr.slot]

/-! ### Decoding and encoding -/

/-- A frame's own bytes decode to it. -/
theorem decodeFrame_encode_instr (c : Command) (arg : BitVec 32) (crc : Byte) (rest : List Byte) :
    decodeFrame (encode (c.instr arg crc) ++ rest) = .ok (c.instr arg crc, rest) := by
  simp [encode_instr, encodeFrame, decodeFrame_supported (commandOf_cmdIndex c)]

/-- The data token's own byte decodes to it. -/
theorem decodeToken_encode_dataToken (rest : List Byte) :
    decodeToken (encode .dataToken ++ rest) = .ok (.dataToken, rest) := by
  simp [encode, decodeToken]

/-- Settles O1: the command slot holds a frame, the token slot the data token, and each decodes from its bytes. -/
theorem decodeOfEncode : Obligations.DecodeOfEncode := by
  intro sl i rest h
  cases sl with
  | command =>
    obtain ⟨c, arg, crc, rfl⟩ := wellFormed_command_iff.1 h
    exact decodeFrame_encode_instr c arg crc rest
  | dataToken =>
    obtain rfl := wellFormed_dataToken_iff.1 h
    exact decodeToken_encode_dataToken rest

/-- Settles O2: each slot's decoder accepts the bytes of that slot's instructions only. -/
theorem decodedBytesAreAnEncoding : Obligations.DecodedBytesAreAnEncoding := by
  intro sl bs rest i h
  cases sl with
  | command =>
    obtain ⟨c, a0, a1, a2, a3, crc, rfl, rfl⟩ := decodeFrame_ok h
    exact ⟨wellFormed_command_iff.2 ⟨c, _, _, rfl⟩, by simp [encode_instr, encodeFrame]⟩
  | dataToken =>
    obtain ⟨rfl, rfl⟩ := decodeToken_ok h
    exact ⟨rfl, rfl⟩

/-- Settles O3: each word's bytes, run through the decoder. -/
theorem sampleWordsDecode : Obligations.SampleWordsDecode := by
  unfold Obligations.SampleWordsDecode
  decide

/-! ### Words of the opcode table -/

/-- A word's instruction is read from its bytes, in one of the two slots. -/
theorem decode_of_decodeTableWord {nbits w : Nat} {i : Instr} (h : decodeTableWord nbits w = some i) :
    ∃ sl tail, decode sl (tableBytes nbits w) = .ok (i, tail) := by
  unfold decodeTableWord at h
  split at h
  · rename_i tail hframe
    exact ⟨.command, tail, by rw [hframe, Option.some.inj h]⟩
  · split at h
    · rename_i tail htoken
      exact ⟨.dataToken, tail, by rw [htoken, Option.some.inj h]⟩
    · cases h

@[simp] theorem bigEndianBytes_length (n w : Nat) : (bigEndianBytes n w).length = n := by
  induction n with
  | zero => rfl
  | succ n ih => simp [bigEndianBytes, ih]

/-- A word's bytes are filled up to the longest instruction. -/
theorem six_le_tableBytes_length (nbits w : Nat) : 6 ≤ (tableBytes nbits w).length := by
  simp only [tableBytes, List.length_append, bigEndianBytes_length, List.length_replicate]
  omega

/-- No frame starts with the data token's byte. -/
theorem commandByte_ne_dataTokenByte (idx : BitVec 6) : commandByte idx ≠ dataTokenByte := by
  intro h
  simpa [h] using validFrameByte_commandByte idx

end Sys2Proof

namespace Sys2Proof.Machine

/-! ### A placed word -/

/-- At the CRC byte a step runs the latched frame (40 R122). -/
theorem step_crc {s : State} (h : s.CanStep) (hd : s.decoderState = .awaitingCrc) {c : Command}
    (hcmd : s.currentCommand = cmdIndex c) {b : Byte} {rest : List HostCall} (hc : s.hostCalls = .write b :: rest) :
    step s = exec (c.instr (arg32 s) b) (s.setCalls rest) := by
  have hlatched : commandOf (s.setCalls rest).currentCommand = some c := by simp [hcmd]
  rw [step_call h hc, runCall_write, writeByte_crc (by exact hd), runFrame_supported hlatched, arg32_setCalls]

/-- In the token wait a step on the token's byte runs the data token (40 R127). -/
theorem step_token {s : State} (h : s.CanStep) (hd : s.decoderState = .awaitingDataToken) {rest : List HostCall}
    (hc : s.hostCalls = .write dataTokenByte :: rest) : step s = exec .dataToken (s.setCalls rest) := by
  rw [step_call h hc, runCall_write, writeByte_token (by exact hd), awaitToken_eq, if_pos rfl]

/-- A supported frame is placed with all but its CRC byte received. -/
theorem placeBytes_frame (s : State) (c : Command) (a0 a1 a2 a3 crc : Byte) (tail : List Byte) :
    placeBytes s (commandByte (cmdIndex c) :: a0 :: a1 :: a2 :: a3 :: crc :: tail) =
      ((s.latchFrame (cmdIndex c) (argOf a0 a1 a2 a3)).setDecoder .awaitingCrc).setCalls
        (.write crc :: s.hostCalls) := by
  simp [placeBytes, commandByte_ne_dataTokenByte]

/-- The data token is placed in the token wait, its byte still to be written. -/
theorem placeBytes_dataToken (s : State) {tail : List Byte} (h : 5 ≤ tail.length) :
    placeBytes s (dataTokenByte :: tail) =
      ((s.setCurrent (cmdIndex .writeBlock)).setDecoder .awaitingDataToken).setCalls
        (.write dataTokenByte :: s.hostCalls) := by
  match tail, h with
  | a0 :: a1 :: a2 :: a3 :: crc :: tail, _ => simp [placeBytes]

/-- Settles O13: the placed state stands before its instruction's last byte, and the step takes that byte. -/
theorem placedWordRunsNext : Obligations.PlacedWordRunsNext := by
  intro s nbits w i h hi
  obtain ⟨sl, tail, hdec⟩ := decode_of_decodeTableWord hi
  unfold State.withFetchWord
  cases sl with
  | command =>
    obtain ⟨c, a0, a1, a2, a3, crc, hbytes, rfl⟩ := decodeFrame_ok hdec
    rw [hbytes, placeBytes_frame, step_crc (by simpa using h) rfl rfl rfl, arg32_setCalls, arg32_setDecoder,
      arg32_latchFrame]
    rfl
  | dataToken =>
    obtain ⟨hbytes, rfl⟩ := decodeToken_ok hdec
    have hlen : 5 ≤ tail.length := by
      have := six_le_tableBytes_length nbits w
      rw [hbytes, List.length_cons] at this
      omega
    rw [hbytes, placeBytes_dataToken s hlen, step_token (by simpa using h) rfl rfl]
    rfl

/-! ### APP_CMD -/

/-- A response is replaced by a later one that is as long (10_state R28). -/
theorem Response.load_load (p : Response) {r r' : List Byte} (hlen : r.length = r'.length) (h : r'.length ≤ 516) :
    (p.load r).load r' = p.load r' := by
  have hbuf : ((p.load r).load r').buf = (p.load r').buf := by
    rw [← Vector.toList_inj, load_toList _ h, load_toList _ h, load_toList _ (hlen ▸ h), ← hlen, List.drop_left]
  simpa [Response.load] using hbuf

/-- Settles O28: APP_SEND_OP_COND latches its own frame over that of APP_CMD, and on a bound card its status byte
replaces the one APP_CMD answered. -/
theorem appCmdSetsNoMode : Obligations.AppCmdSetsNoMode := by
  intro arg arg' crc crc' s u hu
  have hframe (t : State) : exec (.appSendOpCond arg' crc') t =
      completeFrame .appSendOpCond arg' (commandEffect .appSendOpCond) t := exec_instr .appSendOpCond arg' crc' t
  have happ := (exec_instr .appCmd arg crc s).symm.trans hu
  rw [hframe, hframe]
  cases hb : s.boundStore with
  | none =>
    rw [completeFrame_unbound hb] at happ
    injection happ with happ
    subst happ
    rw [completeFrame_unbound (by exact hb), completeFrame_unbound hb]
    rfl
  | some st =>
    rw [completeFrame_bound hb] at happ
    injection happ with happ
    subst happ
    rw [completeFrame_bound (by exact hb), completeFrame_bound hb]
    simp [commandEffect, encStatus, State.respond, State.latchFrame, State.setDecoder, State.setIdle,
      Response.load_load, statusByte]

/-! ### The data phase -/

/-- Settles O35: the entry the data phase puts is found at the latched index, and only there. -/
theorem wholeDataPhase : Obligations.WholeDataPhase := by
  intro s st p c1 c2 rest h hd hw hb hc
  refine ⟨_, runSteps_dataPhase h hd hw hb p c1 c2 hc, ?_, fun i hi => ?_⟩
  · exact (cacheLookup_cachePut ..).trans (if_pos rfl)
  · exact (cacheLookup_cachePut ..).trans (if_neg hi)

end Sys2Proof.Machine
end

section
/-! Proofs of 40_frame_decoder.md: each decoder state's transition as one step, the six bytes of a frame as its
instruction, and what a written byte cannot do: build a response elsewhere, or let the store choose the decoder's way. -/

namespace Sys2Proof

/-! ### The classes of a command byte -/

/-- The framing check, written as a mask (30_encoding R71). -/
theorem validFrameByte_iff (b : Byte) : validFrameByte b = true ↔ b &&& 0xC0 = 0x40 := by
  simp [validFrameByte]

/-- The index of a command byte is its low six bits (30_encoding R71). -/
theorem indexOf_toNat (b : Byte) : (indexOf b).toNat = (b &&& 0x3F).toNat := by
  revert b; decide

/-- The supported indices are the nine of the command map (30_encoding R75). -/
theorem commandOf_isSome_iff (idx : BitVec 6) :
    (commandOf idx).isSome = true ↔ idx.toNat ∈ [0, 8, 9, 10, 17, 24, 41, 55, 58] := by
  revert idx; decide

end Sys2Proof

namespace Sys2Proof.Machine

/-- A step on a written byte is the decoder's transition on it. -/
theorem step_write {s : State} (h : s.CanStep) {b : Byte} {rest : List HostCall} (hc : s.hostCalls = .write b :: rest) :
    step s = writeByte b (s.setCalls rest) := by
  rw [step_call h hc, runCall_write]

/-! ### The frame's bytes -/

/-- Settles O5: `acceptCommandByte_cases`, with the byte's class read from its bits. -/
theorem commandByteTransition : Obligations.CommandByteTransition := by
  intro s b rest h hc hd
  rw [step_write h hc, writeByte_command (by exact hd), ne_eq, ← indexOf_toNat, ← validFrameByte_iff,
    ← commandOf_isSome_iff]
  rcases acceptCommandByte_cases b (s.setCalls rest) with ⟨hv, ht⟩ | ⟨hv, hn, ht⟩ | ⟨hv, ⟨c, hs⟩, ht⟩ <;> rw [ht]
  · exact ⟨fun _ => rfl, fun hv' => by simp [hv] at hv', fun hv' => by simp [hv] at hv'⟩
  · exact ⟨fun hv' => absurd hv hv', fun _ _ => rfl, fun _ hs => by simp [hn] at hs⟩
  · exact ⟨fun hv' => absurd hv hv', fun _ hn => by simp [hs] at hn, fun _ _ => rfl⟩

/-- After argument byte 3 comes the CRC byte, after any other the next argument byte (40 R121). -/
theorem afterArg_eq (k : Fin 4) : afterArg k = if k = 3 then .awaitingCrc else .awaitingArg (k + 1) := by
  revert k; decide

/-- Settles O6: every byte is argument byte `k`. -/
theorem argumentByteTransition : Obligations.ArgumentByteTransition := by
  intro s b rest k h hc hd
  rw [step_write h hc, writeByte_arg (by exact hd), ← afterArg_eq]
  rfl

/-- At the CRC byte the instruction decoded from the latched frame is run (40 R122). -/
theorem runFrame_of_decode {s : State} {b : Byte} {i : Instr} {tail : List Byte}
    (h : decode .command (latchedFrame s b) = .ok (i, tail)) : runFrame b s = exec i s := by
  rw [runFrame, h]

/-- Settles O11: the CRC byte runs the latched frame, and the one byte that decodes in the token wait is the token. -/
theorem stepRunsDecodedInstruction : Obligations.StepRunsDecodedInstruction := by
  intro s b rest i tail h hc
  refine ⟨fun hd hdec => ?_, fun hd hdec => ?_⟩
  · rw [step_write h hc, writeByte_crc (by exact hd)]
    exact runFrame_of_decode hdec
  · obtain ⟨hb, rfl⟩ := decodeToken_ok (bs := [b]) hdec
    obtain rfl : b = dataTokenByte := (List.cons.inj hb).1
    exact step_token h hd hc

/-- Settles O12: an instruction of the command slot is a frame, and its six bytes run it (`runSteps_frame`). -/
theorem sixWritesRunTheFrame : Obligations.SixWritesRunTheFrame := by
  intro s i rest h hd hw hc
  obtain ⟨c, arg, crc, rfl⟩ := wellFormed_command_iff.1 hw
  rw [encode_instr] at hc
  exact runSteps_frame h hd c arg crc hc

/-! ### The data phase's bytes -/

/-- In the token wait the data token opens the data phase (40 R127). -/
theorem exec_dataToken {s : State} (hd : s.decoderState = .awaitingDataToken) :
    exec .dataToken s = .next ((s.setCount 0).setDecoder .awaitingData) := by
  simp [exec, execDataToken, hd]

/-- Settles O23: whether a store is bound is not looked at. -/
theorem dataTokenResult : Obligations.DataTokenResult :=
  fun _ => exec_dataToken

/-- Settles O7: the token's byte runs the data token, any other byte is ignored. -/
theorem tokenWaitTransition : Obligations.TokenWaitTransition := by
  intro s b rest h hc hd
  rw [step_write h hc, writeByte_token (by exact hd), awaitToken_eq]
  refine ⟨fun hb => (if_pos hb).trans ?_, fun hb => if_neg hb⟩
  exact exec_dataToken (by exact hd)

/-- Settles O8: with room in the send buffer every byte is data. -/
theorem dataByteTransition : Obligations.DataByteTransition := by
  intro s b rest hn h hc hd
  rw [step_write h hc, writeByte_data (by exact hd), acceptDataByte_next (by exact hn)]
  simp [State.setCalls, hd]

/-- Settles O9: the byte's value is not looked at. -/
theorem firstDataCrcTransition : Obligations.FirstDataCrcTransition := by
  intro s b rest h hc hd
  rw [step_write h hc, writeByte_dataCrc1 (by exact hd)]
  rfl

/-- Settles O10: the three cases of `executeDataPhase_cases`; on a bound card the cache is put one entry. -/
theorem dataPhaseExecution : Obligations.DataPhaseExecution := by
  intro s b rest h hc hd
  rw [step_write h hc, writeByte_dataCrc2 (by exact hd)]
  rcases executeDataPhase_cases (s.setCalls rest) with ⟨hne, he⟩ | ⟨hw, hb, he⟩ | ⟨hw, st, hb, he⟩ <;> rw [he]
  · exact ⟨fun _ => rfl, fun hw => absurd hw hne, fun hw => absurd hw hne⟩
  · exact ⟨fun hne => absurd hw hne, fun _ _ => rfl, fun _ st hst => by cases hb.symm.trans hst⟩
  · refine ⟨fun hne => absurd hw hne, fun _ hn => (by cases hb.symm.trans hn), fun _ st' hst => ?_⟩
    obtain rfl : st = st' := Option.some.inj (hb.symm.trans hst)
    refine ⟨_, rfl, ?_, fun i hi => ?_, fun hwf => cachePut_wf hwf _ _⟩
    · exact (cacheLookup_cachePut ..).trans (if_pos rfl)
    · exact (cacheLookup_cachePut ..).trans (if_neg hi)

/-! ### Where a response is built -/

/-- A command's effect builds a response from its start, or leaves the response: READ_SINGLE_BLOCK on a failed store
read (41 R157). -/
theorem commandEffect_response (c : Command) (st : Store) (s : State) :
    (commandEffect c st s).response = s.response ∨ (commandEffect c st s).response.cursor = 0 := by
  cases c
  case readSingleBlock =>
    obtain ⟨n, ⟨p, he⟩ | he⟩ := readBlockEffect_cases st s <;> rw [commandEffect, he]
    · exact .inr rfl
    · exact .inl rfl
  all_goals exact .inr rfl

/-- A command frame changes the response on a bound card only (41 R150). -/
theorem exec_instr_response {c : Command} {arg : BitVec 32} {crc : Byte} {s t : State}
    (h : exec (c.instr arg crc) s = .next t) :
    t.response = s.response ∨ (s.boundStore.isSome = true ∧ t.response.cursor = 0) := by
  rw [exec_instr] at h
  cases hb : s.boundStore with
  | none =>
    rw [completeFrame_unbound hb] at h
    cases h
    exact .inl rfl
  | some st =>
    rw [completeFrame_bound hb] at h
    cases h
    exact (commandEffect_response c st (s.latchFrame (cmdIndex c) arg)).imp_right fun hcur => ⟨rfl, hcur⟩

/-- Data-phase execution changes the response on a bound card only (42 R210). -/
theorem executeDataPhase_response (s : State) : (executeDataPhase s).response = s.response ∨
    (s.boundStore.isSome = true ∧ (executeDataPhase s).response.cursor = 0) := by
  rcases executeDataPhase_cases s with ⟨-, he⟩ | ⟨-, -, he⟩ | ⟨-, st, hb, he⟩ <;> rw [he]
  · exact .inl rfl
  · exact .inl rfl
  · exact .inr ⟨by rw [hb]; rfl, rfl⟩

/-- A byte in AwaitingCommand never writes the response (40 R120). -/
@[simp] theorem acceptCommandByte_response (b : Byte) (s : State) :
    (acceptCommandByte b s).response = s.response := by
  rcases acceptCommandByte_cases b s with ⟨-, ht⟩ | ⟨-, -, ht⟩ | ⟨-, -, ht⟩ <;> rw [ht] <;> rfl

/-- A written byte changes the response only at the end of a frame or of a data phase (40 R134). -/
theorem writeByte_response {s t : State} {b : Byte} (h : writeByte b s = .next t) : t.response = s.response ∨
    ((s.decoderState = .awaitingCrc ∨ s.decoderState = .awaitingDataCrc2) ∧ s.boundStore.isSome = true ∧
      t.response.cursor = 0) := by
  rcases writeByte_cases h with ⟨-, rfl⟩ | ⟨k, -, rfl⟩ | ⟨hd, c, -, he⟩ | ⟨-, rfl | rfl⟩ | ⟨-, -, rfl⟩ | ⟨-, rfl⟩ |
    ⟨hd, rfl⟩
  · exact .inl (acceptCommandByte_response b s)
  · exact .inl rfl
  · exact (exec_instr_response he).imp_right fun hbuilt => ⟨.inl hd, hbuilt⟩
  · exact .inl rfl
  · exact .inl rfl
  · exact .inl rfl
  · exact .inl rfl
  · exact (executeDataPhase_response s).imp_right fun hbuilt => ⟨.inr hd, hbuilt⟩

/-- The decoder's transition of a step that takes a written byte and answers a next state. -/
theorem writeByte_of_step {s t : State} {b : Byte} {rest : List HostCall} (hc : s.hostCalls = .write b :: rest)
    (ht : step s = .next t) : writeByte b (s.setCalls rest) = .next t :=
  (step_write (step_cases ht).1 hc).symm.trans ht

/-- Settles O29: only the end of a frame and of a data phase build a response. -/
theorem writesBuildResponsesOnlyAtFrameEnd : Obligations.WritesBuildResponsesOnlyAtFrameEnd :=
  fun _ _ _ _ hc ht hne => (writeByte_response (writeByte_of_step hc ht)).resolve_left hne

/-! ### The decoder's state on its own -/

/-- The decoder's transition on a byte as a function of the decoder's own fields: the latched command `cmd`, the byte
count `n` and its state (40 R120 to R130). -/
def decoderAfter (b : Byte) (cmd : BitVec 6) (n : Nat) : DecoderState → DecoderState
  | .awaitingCommand =>
    if validFrameByte b && (commandOf (indexOf b)).isSome then .awaitingArg 0 else .awaitingCommand
  | .awaitingArg k => afterArg k
  | .awaitingCrc => if cmd = cmdIndex .writeBlock then .awaitingDataToken else .awaitingCommand
  | .awaitingDataToken => if b = dataTokenByte then .awaitingData else .awaitingDataToken
  | .awaitingData => if n + 1 = 512 then .awaitingDataCrc1 else .awaitingData
  | .awaitingDataCrc1 => .awaitingDataCrc2
  | .awaitingDataCrc2 => .awaitingCommand

/-- The state after a frame, by the frame's index (40 R122). -/
theorem afterFrame_eq (c : Command) :
    afterFrame c = if cmdIndex c = cmdIndex .writeBlock then .awaitingDataToken else .awaitingCommand := by
  cases c <;> rfl

/-- Every written byte moves the decoder as `decoderAfter` says (40 R132, R133). -/
theorem writeByte_decoderState {s t : State} {b : Byte} (h : writeByte b s = .next t) :
    t.decoderState = decoderAfter b s.currentCommand s.dataCount s.decoderState := by
  cases hd : s.decoderState with
  | awaitingCommand =>
    rw [writeByte_command hd] at h
    cases h
    rcases acceptCommandByte_cases b s with ⟨hv, ht⟩ | ⟨hv, hn, ht⟩ | ⟨hv, ⟨c, hs⟩, ht⟩ <;> rw [ht]
    · simp [decoderAfter, hv, hd]
    · simp [decoderAfter, hn, hd]
    · simp [decoderAfter, hv, hs]
  | awaitingArg k =>
    rw [writeByte_arg hd] at h
    cases h
    rfl
  | awaitingCrc =>
    rw [writeByte_crc hd] at h
    cases hcmd : commandOf s.currentCommand with
    | none => rw [runFrame_unsupported hcmd] at h; cases h
    | some c =>
      rw [runFrame_supported hcmd] at h
      rw [exec_instr_decoderState h, afterFrame_eq, cmdIndex_of_commandOf hcmd, decoderAfter]
  | awaitingDataToken =>
    rw [writeByte_token hd, awaitToken_eq] at h
    split at h
    case isTrue hb =>
      rw [exec_dataToken hd] at h
      cases h
      simp [decoderAfter, hb]
    case isFalse hb =>
      cases h
      simp [decoderAfter, hb, hd]
  | awaitingData =>
    rw [writeByte_data hd] at h
    by_cases hn : s.dataCount < 512
    · rw [acceptDataByte_next hn] at h
      cases h
      rw [hd, decoderAfter]
    · rw [acceptDataByte_fault hn] at h
      cases h
  | awaitingDataCrc1 =>
    rw [writeByte_dataCrc1 hd] at h
    cases h
    rfl
  | awaitingDataCrc2 =>
    rw [writeByte_dataCrc2 hd] at h
    cases h
    rfl

/-- Settles O30: both Cards move by `decoderAfter`, which no store enters. -/
theorem decoderIgnoresTheStore : Obligations.DecoderIgnoresTheStore := by
  intro s s' t t' b rest rest' hc hc' hd hcmd hn ht ht'
  rw [writeByte_decoderState (writeByte_of_step hc ht), writeByte_decoderState (writeByte_of_step hc' ht')]
  simp only [State.setCalls_currentCommand, State.setCalls_dataCount, State.setCalls_decoderState, hd, hcmd, hn]

end Sys2Proof.Machine
end

section
/-! Proofs of 41_commands.md: what each command frame answers on a bound card and on an unbound one, and the frame of
all ten instructions. -/

namespace Sys2Proof

/-- An instruction is a command frame or the data token (30_encoding R70, R72). -/
theorem instr_cases (i : Instr) : (∃ (c : Command) (arg : BitVec 32) (crc : Byte), i = c.instr arg crc) ∨
    i = .dataToken := by
  cases hs : i.slot with
  | command => exact .inl (wellFormed_command_iff.1 (by simp [Instr.wellFormed, hs]))
  | dataToken => exact .inr (wellFormed_dataToken_iff.1 (by simp [Instr.wellFormed, hs]))

theorem instr_ne_dataToken (c : Command) (arg : BitVec 32) (crc : Byte) : c.instr arg crc ≠ .dataToken := by
  cases c <;> exact Instr.noConfusion

/-- A frame that is a READ_SINGLE_BLOCK reads the sector of its own argument. -/
theorem instr_eq_readSingleBlock {c : Command} {arg arg' : BitVec 32} {crc crc' : Byte}
    (h : c.instr arg crc = .readSingleBlock arg' crc') : arg = arg' := by
  cases c <;> cases h
  rfl

end Sys2Proof

namespace Sys2Proof.Machine

/-! ### A frame on an unbound card and on a bound one -/

/-- On an unbound card every frame is its latched bytes and the transition (41 R150). -/
theorem exec_instr_unbound {s : State} (hb : s.boundStore = none) (c : Command) (arg : BitVec 32) (crc : Byte) :
    exec (c.instr arg crc) s = .next ((s.latchFrame (cmdIndex c) arg).setDecoder (afterFrame c)) := by
  rw [exec_instr, completeFrame_unbound hb]

/-- On a bound card the command's effect stands between the two. -/
theorem exec_instr_bound {s : State} {st : Store} (hb : s.boundStore = some st) (c : Command) (arg : BitVec 32)
    (crc : Byte) : exec (c.instr arg crc) s =
      .next ((commandEffect c st (s.latchFrame (cmdIndex c) arg)).setDecoder (afterFrame c)) := by
  rw [exec_instr, completeFrame_bound hb]

/-- Settles O24: no command's effect is run. -/
theorem unboundFramesAreNoOps : Obligations.UnboundFramesAreNoOps :=
  fun c arg crc _ hb => exec_instr_unbound hb c arg crc

/-! ### The frame -/

/-- Everything dispatch can write: `idle` by two commands, the event log and the draw counter by READ_SINGLE_BLOCK, and
the response, which a reported error leaves (41 R150, R153 to R161). -/
theorem dispatch_writes (c : Command) (s : State) : ∃ v p es n,
    dispatch (commandEffect c) s = { s with idle := v, response := p, events := es, draws := n } ∧
    (c ≠ .goIdleState → c ≠ .appSendOpCond → v = s.idle) ∧
    (c ≠ .readSingleBlock → es = s.events ∧ n = s.draws) ∧
    (es = s.events ∨ (es = s.events ++ [.ioError .read (arg32 s)] ∧ p = s.response)) := by
  rcases Option.eq_none_or_eq_some s.boundStore with hb | ⟨st, hb⟩
  · rw [dispatch_unbound hb]
    exact ⟨s.idle, s.response, s.events, s.draws, rfl, fun _ _ => rfl, fun _ => ⟨rfl, rfl⟩, .inl rfl⟩
  · rw [dispatch_bound hb]
    cases c
    case goIdleState => exact ⟨_, _, _, _, rfl, fun h => absurd rfl h, fun _ => ⟨rfl, rfl⟩, .inl rfl⟩
    case appSendOpCond => exact ⟨_, _, _, _, rfl, fun _ h => absurd rfl h, fun _ => ⟨rfl, rfl⟩, .inl rfl⟩
    case readSingleBlock =>
      obtain ⟨n, ⟨p, he⟩ | he⟩ := readBlockEffect_cases st s <;> rw [commandEffect, he]
      · exact ⟨_, _, _, _, rfl, fun _ _ => rfl, fun h => absurd rfl h, .inl rfl⟩
      · exact ⟨_, _, _, _, rfl, fun _ _ => rfl, fun h => absurd rfl h, .inr ⟨rfl, rfl⟩⟩
    all_goals exact ⟨_, _, _, _, rfl, fun _ _ => rfl, fun _ => ⟨rfl, rfl⟩, .inl rfl⟩

/-- Everything the data token can do: open the data phase, or nothing (40 R127). -/
theorem exec_dataToken_cases {s t : State} (h : exec .dataToken s = .next t) :
    t = (s.setCount 0).setDecoder .awaitingData ∨ t = s := by
  simp only [exec, execDataToken] at h
  split at h <;> cases h
  · exact .inl rfl
  · exact .inr rfl

/-- Settles O25: `dispatch_writes` and `exec_dataToken_cases` name every field an instruction writes besides its latched
bytes and the decoder's state. -/
theorem instructionFrame : Obligations.InstructionFrame := by
  intro i s t h
  have hbytes {u : State} (hu : u.boundStore = s.boundStore) (st st' : Store) (hs : s.boundStore = some st)
      (hst' : u.boundStore = some st') (a : Nat) : Memory.readByte st'.data a = Memory.readByte st.data a := by
    rw [Option.some.inj (hst'.symm.trans (hu.trans hs))]
  rcases instr_cases i with ⟨c, arg, crc, rfl⟩ | rfl
  · obtain ⟨v, p, es, n, he, hidle, hstore, hread⟩ := dispatch_writes c (s.latchFrame (cmdIndex c) arg)
    rw [arg32_latchFrame] at hread
    rw [exec_instr, completeFrame, he] at h
    cases h
    refine ⟨rfl, hbytes rfl, rfl, rfl, rfl, rfl, rfl, rfl, rfl, rfl, rfl, rfl, fun _ => rfl,
      fun hi => absurd hi (instr_ne_dataToken c arg crc), ?_, ?_, ?_⟩
    · intro hi
      exact hidle (by rintro rfl; exact (hi arg crc).1 rfl) (by rintro rfl; exact (hi arg crc).2 rfl)
    · intro hi
      exact hstore (by rintro rfl; exact hi arg crc rfl)
    · intro arg' crc' hi
      exact instr_eq_readSingleBlock hi ▸ hread
  · rcases exec_dataToken_cases h with rfl | rfl <;>
      exact ⟨rfl, hbytes rfl, rfl, rfl, rfl, rfl, rfl, rfl, rfl, rfl, rfl, rfl, fun hi => absurd rfl hi,
        fun _ => ⟨rfl, rfl, rfl⟩, fun _ => rfl, fun _ => ⟨rfl, rfl⟩, fun _ _ hi => nomatch hi⟩

/-! ### The response of each command on a bound card -/

/-- Settles O14: the status byte is that of the flag just set. -/
theorem goIdleStateResult : Obligations.GoIdleStateResult :=
  fun arg crc _ _ hb => exec_instr_bound hb .goIdleState arg crc

/-- Settles O15: the echo's last byte is the argument's. -/
theorem sendIfCondResult : Obligations.SendIfCondResult := by
  intro arg crc s st hb
  refine (exec_instr_bound hb .sendIfCond arg crc).trans ?_
  simp only [commandEffect, encStatusEcho, ifCondEcho_latchFrame, bytes32_ifCond]
  rfl

/-- Settles O16: the CSD's 16 bytes stand before 496 zeros. -/
theorem sendCsdResult : Obligations.SendCsdResult := by
  intro arg crc s st hb
  refine (exec_instr_bound hb .sendCsd arg crc).trans ?_
  simp only [commandEffect, encDataBlock, csdPayload_eq, List.append_assoc]
  rfl

/-- Settles O17: the CID's 16 bytes stand before 496 zeros. -/
theorem sendCidResult : Obligations.SendCidResult := by
  intro arg crc s st hb
  refine (exec_instr_bound hb .sendCid arg crc).trans ?_
  simp only [commandEffect, encDataBlock, cidPayload_eq, cidRegister, List.append_assoc]
  rfl

/-- READ_SINGLE_BLOCK of a sector that is not cached answers what the one store call reads (41 R157, 42 R200). -/
theorem readBlockEffect_miss {s : State} (h : cacheLookup s.cache (arg32 s) = none) {st : Store} {e : Sector}
    (hr : st.read s.draws (arg32 s) = some e) :
    readBlockEffect st s = encDataBlock (logicalSector st e).toList (s.setDraws (s.draws + 1)) := by
  simp [readBlockEffect, sectorRead, h, hr]

/-- A failed store call is reported, and no response is built (41 R157). -/
theorem readBlockEffect_failed {s : State} (h : cacheLookup s.cache (arg32 s) = none) {st : Store}
    (hr : st.read s.draws (arg32 s) = none) :
    readBlockEffect st s = (s.setDraws (s.draws + 1)).report (.ioError .read (arg32 s)) := by
  simp [readBlockEffect, sectorRead, h, hr]

/-- Settles O18: a cache hit, a store read and a failed one are the three cases of the read; `logicalSector` is the
unpacking of a 256-byte sector. -/
theorem readSingleBlockResult : Obligations.ReadSingleBlockResult := by
  intro arg crc s st hb
  have hexec : exec (.readSingleBlock arg crc) s =
      .next ((readBlockEffect st (s.latchFrame 17 arg)).setDecoder .awaitingCommand) :=
    exec_instr_bound hb .readSingleBlock arg crc
  have harg : arg32 (s.latchFrame 17 arg) = arg := arg32_latchFrame s 17 arg
  rw [hexec]
  refine ⟨fun e hc => ?_, fun e hc hr => ?_, fun hc hr => ?_⟩
  · rw [readBlockEffect_hit (by rw [harg]; exact hc)]
    rfl
  · rw [readBlockEffect_miss (by rw [harg]; exact hc) (by rw [harg]; exact hr)]
    rfl
  · rw [readBlockEffect_failed (by rw [harg]; exact hc) (by rw [harg]; exact hr), harg]
    rfl

/-- Settles O19: the status byte now, and the data phase follows. -/
theorem writeBlockResult : Obligations.WriteBlockResult :=
  fun arg crc _ _ hb => exec_instr_bound hb .writeBlock arg crc

/-- Settles O20: the status byte is that of the flag just cleared. -/
theorem appSendOpCondResult : Obligations.AppSendOpCondResult :=
  fun arg crc _ _ hb => exec_instr_bound hb .appSendOpCond arg crc

/-- Settles O21: the status byte alone. -/
theorem appCmdResult : Obligations.AppCmdResult :=
  fun arg crc _ _ hb => exec_instr_bound hb .appCmd arg crc

/-- Settles O22: the echoed value is the OCR's. -/
theorem readOcrResult : Obligations.ReadOcrResult := by
  intro arg crc s st hb
  refine (exec_instr_bound hb .readOcr arg crc).trans ?_
  simp only [commandEffect, encStatusEcho, bytes32_ocr]
  rfl

end Sys2Proof.Machine
end

section
/-! Proofs of 42_sector_cache.md: the layouts of an entry, the cache as a map, who changes it, and what the store
writes of a commit leave. -/

namespace Sys2Proof.Machine

/-! ### The layouts of an entry -/

/-- The even-indexed logical bytes are the first 256 physical ones (42 R201). -/
theorem unpack256_getElem_even (e : Sector) {j : Nat} (h : j < 256) : (unpack256 e)[2 * j] = e[j] := by
  simp [unpack256]

/-- Settles O33: each byte by the parity of its logical index, or by the half of the entry it stands in. -/
theorem packUnpackBytes : Obligations.PackUnpackBytes := by
  intro e d j h
  have hpack : (pack256 e d)[j] = d[2 * j] := by simp [pack256, h]
  refine ⟨unpack256_getElem_even e h, ?_, hpack, ?_, (unpack256_getElem_even _ h).trans hpack⟩
  · simp [unpack256]
  · simp [pack256]

/-! ### The cache as a map -/

/-- Settles O34: `cacheLookup_cachePut` and `cachePut_wf`. -/
theorem cachePutThenLookup : Obligations.CachePutThenLookup :=
  fun c i j e => ⟨cacheLookup_cachePut c i j e, fun h => cachePut_wf h i e⟩

/-- A put removes no key (42 R205). -/
theorem cacheLookup_cachePut_isSome {c : List (SectorIndex × Sector)} {j : SectorIndex}
    (h : (cacheLookup c j).isSome = true) (i : SectorIndex) (e : Sector) :
    (cacheLookup (cachePut c i e) j).isSome = true := by
  rw [cacheLookup_cachePut]
  split
  · rfl
  · exact h

/-- The keys of a cache are the indices with an entry (42 R204). -/
theorem cacheLookup_isSome_iff (c : List (SectorIndex × Sector)) (i : SectorIndex) :
    (cacheLookup c i).isSome = true ↔ i ∈ c.map Prod.fst := by
  induction c with
  | nil => simp [cacheLookup]
  | cons q c ih =>
    rw [cacheLookup, List.map_cons, List.mem_cons, ← ih]
    split
    case isTrue hk => simp [hk]
    case isFalse hk => simp [Ne.symm hk]

/-- What a lookup answers is an entry of the cache. -/
theorem mem_of_cacheLookup {c : List (SectorIndex × Sector)} {i : SectorIndex} {e : Sector}
    (h : cacheLookup c i = some e) : (i, e) ∈ c := by
  induction c with
  | nil => cases h
  | cons q c ih =>
    rw [cacheLookup] at h
    split at h
    case isTrue hk =>
      cases h
      exact hk ▸ List.mem_cons_self
    case isFalse => exact List.mem_cons_of_mem _ (ih h)

/-- A canonical cache has each key once (10_state R30). -/
theorem nodup_keys_of_cacheWf {c : List (SectorIndex × Sector)} (h : cacheWf c = true) : (c.map Prod.fst).Nodup :=
  List.pairwise_map.mpr (((cacheWf_iff c).mp h).imp fun hlt => BitVec.ne_of_lt hlt)

/-! ### Who changes the cache -/

/-- No command frame writes the cache (42 R211). -/
theorem exec_instr_cache {c : Command} {arg : BitVec 32} {crc : Byte} {s t : State}
    (h : exec (c.instr arg crc) s = .next t) : t.cache = s.cache := by
  obtain ⟨v, p, es, n, he, -⟩ := dispatch_writes c (s.latchFrame (cmdIndex c) arg)
  rw [exec_instr, completeFrame, he] at h
  cases h
  rfl

@[simp] theorem acceptCommandByte_cache (b : Byte) (s : State) : (acceptCommandByte b s).cache = s.cache := by
  rcases acceptCommandByte_cases b s with ⟨-, ht⟩ | ⟨-, -, ht⟩ | ⟨-, -, ht⟩ <;> rw [ht] <;> rfl

/-- Data-phase execution puts one entry on a bound card with WRITE_BLOCK latched, and else leaves the cache (42 R210). -/
theorem executeDataPhase_cache (s : State) : (executeDataPhase s).cache = s.cache ∨
    (s.currentCommand = cmdIndex .writeBlock ∧ s.boundStore.isSome = true ∧
      ∃ i e, (executeDataPhase s).cache = cachePut s.cache i e) := by
  rcases executeDataPhase_cases s with ⟨-, he⟩ | ⟨-, -, he⟩ | ⟨hw, st, hb, he⟩ <;> rw [he]
  · exact .inl rfl
  · exact .inl rfl
  · exact .inr ⟨hw, by rw [hb]; rfl, _, _, rfl⟩

/-- A written byte changes the cache only at the end of a data phase (42 R211). -/
theorem writeByte_cache {s t : State} {b : Byte} (h : writeByte b s = .next t) : t.cache = s.cache ∨
    (s.decoderState = .awaitingDataCrc2 ∧ s.currentCommand = cmdIndex .writeBlock ∧ s.boundStore.isSome = true ∧
      ∃ i e, t.cache = cachePut s.cache i e) := by
  rcases writeByte_cases h with ⟨-, rfl⟩ | ⟨k, -, rfl⟩ | ⟨-, c, -, he⟩ | ⟨-, rfl | rfl⟩ | ⟨-, -, rfl⟩ | ⟨-, rfl⟩ |
    ⟨hd, rfl⟩
  · exact .inl (acceptCommandByte_cache b s)
  · exact .inl rfl
  · exact .inl (exec_instr_cache he)
  · exact .inl rfl
  · exact .inl rfl
  · exact .inl rfl
  · exact .inl rfl
  · exact (executeDataPhase_cache s).imp_right fun hput => ⟨hd, hput⟩

/-- A read leaves the cache (44 R233). -/
theorem readByte_cache {s t : State} (h : readByte s = .next t) : t.cache = s.cache := by
  rcases readByte_cases s with ⟨_, -, hr⟩ | ⟨-, hr⟩ | ⟨-, -, hr⟩ <;> rw [hr] at h <;> cases h <;> rfl

/-- An eject discards the cache of a bound card (44 R235). -/
theorem eject_cache (s : State) : (eject s).cache = if s.boundStore.isSome then [] else s.cache := by
  obtain ⟨rel, es, n, he, -⟩ := eject_cases s
  rw [he]

/-- An eject leaves the cache or empties it. -/
theorem eject_cache_cases (s : State) : (eject s).cache = s.cache ∨ (eject s).cache = [] := by
  rw [eject_cache]
  split
  · exact .inr rfl
  · exact .inl rfl

/-- On an unbound card an insert empties the cache where it binds a store, and else leaves it (43 R224). -/
theorem insertUnbound_cache_cases (o : OpenResult) (s : State) :
    (insertUnbound o s).cache = s.cache ∨ (insertUnbound o s).cache = [] := by
  rcases insertUnbound_cases o s with ⟨d, rel, -, ht⟩ | ⟨st, -, ht⟩ | ⟨st, -, -, -, -, ht⟩ <;> rw [ht]
  · exact .inl rfl
  · exact .inl rfl
  · exact .inr rfl

/-- An insert leaves the cache or empties it, bound or not (43 R224, D23). -/
theorem insertPath_cache_cases (o : OpenResult) (s : State) :
    (insertPath o s).cache = s.cache ∨ (insertPath o s).cache = [] := by
  cases hb : s.boundStore with
  | none =>
    rw [insertPath_unbound hb]
    exact insertUnbound_cache_cases o s
  | some st =>
    rw [insertPath_bound hb]
    have heject : (eject s).cache = [] := by rw [eject_cache, hb]; rfl
    exact .inr ((insertUnbound_cache_cases o (eject s)).elim (fun h => h.trans heject) id)

/-- A commit changes the cache only where it clears, and adds no entry (42 R208). -/
theorem commit_cache_cases (s : State) : (commit s).cache = s.cache ∨
    (s.params.commitClears = true ∧ ∀ p ∈ (commit s).cache, p ∈ s.cache) := by
  cases hb : s.boundStore with
  | none => rw [commit_unbound hb]; exact .inl rfl
  | some st =>
    have hcache : (commit s).cache = committedCache s (commitRun st s).failed := by rw [commit_bound hb]; rfl
    rw [hcache, committedCache]
    split
    case isTrue hclears => exact .inr ⟨hclears, fun p hp => (List.mem_filter.mp hp).1⟩
    case isFalse => exact .inl rfl

/-- Settles O37: each call leaves the cache, or is one of the four kinds named. -/
theorem cacheChangesOnlyThere : Obligations.CacheChangesOnlyThere := by
  intro s t ht hne
  obtain ⟨-, ⟨-, rfl⟩ | ⟨c, rest, hc, hrun⟩⟩ := step_cases ht
  · exact absurd rfl hne
  refine ⟨c, rest, hc, ?_⟩
  cases c with
  | write b =>
    obtain ⟨hd, hw, hb, i, e, hput⟩ := (writeByte_cache hrun).resolve_left hne
    refine .inl ⟨b, rfl, hd, hw, hb, fun j hj => ?_⟩
    rw [hput]
    exact cacheLookup_cachePut_isSome hj i e
  | read => exact absurd (readByte_cache hrun) hne
  | select => cases hrun; exact absurd rfl hne
  | isDirty => cases hrun; exact absurd rfl hne
  | insert o =>
    cases hrun
    exact .inr (.inl ⟨o, rfl, (insertPath_cache_cases o _).resolve_left hne⟩)
  | eject =>
    cases hrun
    exact .inr (.inr (.inl ⟨.inl rfl, (eject_cache_cases _).resolve_left hne⟩))
  | destroy =>
    cases hrun
    exact .inr (.inr (.inl ⟨.inr rfl, (eject_cache_cases _).resolve_left hne⟩))
  | commit =>
    cases hrun
    exact .inr (.inr (.inr ⟨rfl, (commit_cache_cases _).resolve_left hne⟩))

/-! ### The order of a commit's writes -/

/-- The drawn order keeps the entries: each one is placed among those after it (42 R208, D22). -/
theorem drawnOrder_perm {α : Type} (n : Nat) (l : List α) : (drawnOrder n l).Perm l := by
  induction l generalizing n with
  | nil => exact .refl _
  | cons x l ih => exact (placeDrawn_perm n x _).trans ((ih (n + 1)).cons x)

/-- Settles O50: `drawnOrder_perm` at the entries of a cache. -/
theorem commitOrderIsAPermutation : Obligations.CommitOrderIsAPermutation :=
  fun n c => drawnOrder_perm n c

/-! ### One store write -/

/-- A store write of sector `i` may change the byte at address `a`: the address is one of the sector's physical bytes,
and the reference store has that sector (44 R243, R245). -/
def Store.WriteReaches (st : Store) (i : SectorIndex) (a : Nat) : Prop :=
  (sectorBase i ≤ a ∧ a < sectorBase i + st.physicalBytes) ∧
    (st.kind = .reference → i.toNat < st.geometry.totalSectors)

/-- Two sectors share no byte. -/
theorem Store.WriteReaches.eq_index {st : Store} {k i : SectorIndex} {j : Nat}
    (h : st.WriteReaches k (sectorBase i + j)) (hj : j < 512) : k = i := by
  obtain ⟨⟨hlo, hhi⟩, -⟩ := h
  have := st.physicalBytes_le
  apply BitVec.eq_of_toNat_eq
  simp only [sectorBase] at hlo hhi
  omega

@[simp] theorem Store.write_physicalBytes (st : Store) (n : Nat) (i : SectorIndex) (b : Sector) :
    (st.write n i b).2.physicalBytes = st.physicalBytes := by
  rw [physicalBytes, physicalBytes, (st.write_geometry n i b).1]

/-- What a write may change is a matter of geometry and kind, which writes keep. -/
@[simp] theorem Store.write_writeReaches (st : Store) (n : Nat) (i : SectorIndex) (b : Sector) (k : SectorIndex)
    (a : Nat) : (st.write n i b).2.WriteReaches k a ↔ st.WriteReaches k a := by
  obtain ⟨hg, hk⟩ := st.write_geometry n i b
  simp only [WriteReaches, write_physicalBytes, hg, hk]

/-- The bytes a write does not reach stay, whether it succeeds or not (44 R243). -/
theorem Store.readByte_write_of_not_writeReaches {st : Store} {i : SectorIndex} {a : Nat} (h : ¬ st.WriteReaches i a)
    (n : Nat) (b : Sector) : Memory.readByte (st.write n i b).2.data a = Memory.readByte st.data a := by
  have outside (hr : st.kind = .reference → i.toNat < st.geometry.totalSectors) {bytes : List Byte}
      (hl : bytes.length = 512) : Memory.readByte (st.putBytes i bytes).data a = Memory.readByte st.data a := by
    rw [readByte_putBytes st i hl, dif_neg fun hin => h ⟨hin, hr⟩]
  rcases st.write_cases n i b with ⟨⟨-, hi⟩ | ⟨hk, -⟩, he⟩ | ⟨-, -, he⟩ | ⟨hk, -, he⟩ <;> rw [he]
  · exact outside (fun _ => hi) (by simp)
  · exact outside (fun hr => by rw [hr] at hk; cases hk) (by simp)
  · exact outside (fun hr => by rw [hr] at hk; cases hk) (by simp)

/-- After a write that succeeds each physical byte of the sector is the one written (44 R243). -/
theorem Store.readByte_write_of_success {st : Store} {n : Nat} {i : SectorIndex} {b : Sector}
    (h : (st.write n i b).1 = true) {j : Nat} (hj : j < 512) (hp : j < st.physicalBytes) :
    Memory.readByte (st.write n i b).2.data (sectorBase i + j) = b[j] := by
  rcases st.write_cases n i b with ⟨-, he⟩ | ⟨-, -, he⟩ | ⟨-, -, he⟩ <;> rw [he] at h ⊢
  · rw [readByte_putBytes st i (by simp), dif_pos ⟨by omega, by omega⟩]
    simp
  · cases h
  · cases h

/-- The reference store takes exactly the writes to its sectors (44 R245). -/
theorem Store.write_fst_of_reference {st : Store} (h : st.kind = .reference) (n : Nat) (i : SectorIndex)
    (b : Sector) : (st.write n i b).1 = decide (i.toNat < st.geometry.totalSectors) := by
  rcases st.write_cases n i b with ⟨⟨-, hi⟩ | ⟨hk, -⟩, he⟩ | ⟨-, hi, he⟩ | ⟨hk, -, he⟩
  · rw [he]; simp [hi]
  · rw [h] at hk; cases hk
  · rw [he]; simp [hi]
  · rw [h] at hk; cases hk

/-- Any other store fails a write only where a draw says so (44 R243, D8). -/
theorem Store.storeWriteFails_of_write {st : Store} (h : st.kind = .drawn) {n : Nat} {i : SectorIndex} {b : Sector}
    (hf : (st.write n i b).1 = false) : Config.storeWriteFails n = true := by
  rcases st.write_cases n i b with ⟨-, he⟩ | ⟨hk, -, -⟩ | ⟨-, hfails, -⟩
  · rw [he] at hf; cases hf
  · rw [h] at hk; cases hk
  · exact hfails

/-! ### A run of store writes -/

@[simp] theorem writeAll_cons_store (st : Store) (n : Nat) (i : SectorIndex) (e : Sector)
    (l : List (SectorIndex × Sector)) :
    (writeAll st n ((i, e) :: l)).store = (writeAll (st.write n i e).2 (n + 1) l).store := by
  simp only [writeAll]; split <;> rfl

theorem writeAll_cons_failed (st : Store) (n : Nat) (i : SectorIndex) (e : Sector)
    (l : List (SectorIndex × Sector)) : (writeAll st n ((i, e) :: l)).failed =
      if (st.write n i e).1 then (writeAll (st.write n i e).2 (n + 1) l).failed
      else i :: (writeAll (st.write n i e).2 (n + 1) l).failed := by
  simp only [writeAll]; split <;> rfl

/-- The failed indices are some of the attempted ones, in the order of the attempts (42 R208). -/
theorem writeAll_failed_sublist (l : List (SectorIndex × Sector)) (st : Store) (n : Nat) :
    (writeAll st n l).failed.Sublist (l.map Prod.fst) := by
  induction l generalizing st n with
  | nil => exact .slnil
  | cons p l ih =>
    obtain ⟨i, e⟩ := p
    rw [writeAll_cons_failed]
    split
    · exact (ih _ _).cons i
    · exact (ih _ _).cons_cons i

/-- The bytes that no write reaches stay. -/
theorem readByte_writeAll_of_not_writeReaches {l : List (SectorIndex × Sector)} {st : Store} {a : Nat}
    (h : ∀ p ∈ l, ¬ st.WriteReaches p.1 a) (n : Nat) :
    Memory.readByte (writeAll st n l).store.data a = Memory.readByte st.data a := by
  induction l generalizing st n with
  | nil => rfl
  | cons p l ih =>
    obtain ⟨i, e⟩ := p
    obtain ⟨hi, hl⟩ := List.forall_mem_cons.mp h
    rw [writeAll_cons_store, ih (by simpa using hl)]
    exact Store.readByte_write_of_not_writeReaches hi n e

/-- Where no index is attempted twice, each entry that did not fail is in the store: no later write reaches its bytes
(42 R208). -/
theorem readByte_writeAll_of_not_failed {l : List (SectorIndex × Sector)} {st : Store} {n : Nat}
    (hl : (l.map Prod.fst).Nodup) {i : SectorIndex} {e : Sector} (hm : (i, e) ∈ l)
    (hf : i ∉ (writeAll st n l).failed) {j : Nat} (hj : j < 512) (hp : j < st.physicalBytes) :
    Memory.readByte (writeAll st n l).store.data (sectorBase i + j) = e[j] := by
  induction l generalizing st n with
  | nil => cases hm
  | cons p l ih =>
    obtain ⟨k, f⟩ := p
    obtain ⟨hk, hl⟩ := List.nodup_cons.mp hl
    rw [writeAll_cons_failed] at hf
    rw [writeAll_cons_store]
    rcases List.mem_cons.mp hm with hhead | hm
    · cases hhead
      have hsuccess : (st.write n i e).1 = true := by
        by_contra hfail
        rw [if_neg hfail] at hf
        exact hf List.mem_cons_self
      have hlater : ∀ q ∈ l, ¬ (st.write n i e).2.WriteReaches q.1 (sectorBase i + j) :=
        fun q hq hreach => hk (List.mem_map.mpr ⟨q, hq, hreach.eq_index hj⟩)
      rw [readByte_writeAll_of_not_writeReaches hlater]
      exact Store.readByte_write_of_success hsuccess hj hp
    · refine ih hl hm (fun hfailed => hf ?_) (by simpa using hp)
      split
      · exact hfailed
      · exact List.mem_cons_of_mem _ hfailed

/-- On the reference store exactly the indices past its sectors fail (44 R245). -/
theorem writeAll_failed_of_reference {st : Store} (h : st.kind = .reference) (l : List (SectorIndex × Sector))
    (n : Nat) : (writeAll st n l).failed =
      (l.map Prod.fst).filter fun i => !decide (i.toNat < st.geometry.totalSectors) := by
  induction l generalizing st n with
  | nil => rfl
  | cons p l ih =>
    obtain ⟨i, e⟩ := p
    obtain ⟨hg, hk⟩ := st.write_geometry n i e
    rw [writeAll_cons_failed, Store.write_fst_of_reference h, ih (hk.trans h), hg, List.map_cons, List.filter_cons]
    by_cases hi : i.toNat < st.geometry.totalSectors <;> simp [hi]

/-- On any other store a failed write has a draw that failed it (44 R243). -/
theorem exists_storeWriteFails_of_writeAll {st : Store} (h : st.kind = .drawn) {l : List (SectorIndex × Sector)}
    {n : Nat} (hf : (writeAll st n l).failed ≠ []) : ∃ m, Config.storeWriteFails m = true := by
  induction l generalizing st n with
  | nil => exact absurd rfl hf
  | cons p l ih =>
    obtain ⟨i, e⟩ := p
    rw [writeAll_cons_failed] at hf
    split at hf
    case isTrue => exact ih ((st.write_geometry n i e).2.trans h) hf
    case isFalse hfail => exact ⟨n, Store.storeWriteFails_of_write h (Bool.eq_false_of_not_eq_true hfail)⟩

/-! ### The commit -/

/-- What a commit's writes leave of the store, whatever order was drawn: the order attempts the cache's own entries,
each as often as the cache lists it (42 R208; 44 R243, R245). -/
theorem commitRun_persisted (st : Store) (s : State) :
    st.Persisted (commitRun st s).store s.cache (commitRun st s).failed := by
  have hperm := drawnOrder_perm s.draws s.cache
  have hkeys := hperm.map Prod.fst
  have hsub := writeAll_failed_sublist (drawnOrder s.draws s.cache) st (s.draws + s.cache.length)
  have hnodup (hwf : cacheWf s.cache = true) : ((drawnOrder s.draws s.cache).map Prod.fst).Nodup :=
    hkeys.nodup_iff.mpr (nodup_keys_of_cacheWf hwf)
  have hfails (hr : st.kind = .reference) (i : SectorIndex) : i ∈ (commitRun st s).failed ↔
      (cacheLookup s.cache i).isSome = true ∧ ¬ i.toNat < st.geometry.totalSectors := by
    simp only [commitRun, writeAll_failed_of_reference hr, List.mem_filter, hkeys.mem_iff, cacheLookup_isSome_iff,
      Bool.not_eq_true', decide_eq_false_iff_not]
  refine
    { geometry := (writeAll_geometry _ _ _).1
      kind := (writeAll_geometry _ _ _).2
      failedAreKeys := fun i hi => (cacheLookup_isSome_iff _ i).mpr (hkeys.mem_iff.mp (hsub.subset hi))
      failedOnce := fun hwf => hsub.nodup (hnodup hwf)
      written := fun hwf i e he hi j hj hp => ?_
      others := fun a ha => ?_
      referenceFails := hfails
      referenceKeeps := fun hr i hi j hj => ?_
      drawnFails := fun hd hne => exists_storeWriteFails_of_writeAll hd hne }
  · have hphys : j < st.physicalBytes := by
      rw [Store.physicalBytes]
      split
      · exact hp ‹_›
      · exact hj
    exact readByte_writeAll_of_not_failed (hnodup hwf) (hperm.mem_iff.mpr (mem_of_cacheLookup he)) hi hj hphys
  · exact readByte_writeAll_of_not_writeReaches (fun p hp hreach => ha p (hperm.mem_iff.mp hp) hreach.1) _
  · refine readByte_writeAll_of_not_writeReaches (fun p _ hreach => ((hfails hr i).mp hi).2 ?_) _
    exact hreach.eq_index hj ▸ hreach.2 hr

/-- Settles O48: the commit's run of writes, with `commitRun_persisted`. -/
theorem commitResult : Obligations.CommitResult := by
  intro s rest h hc
  rw [step_call h hc, runCall_commit]
  refine ⟨fun hb => ?_, fun st hb => ?_⟩
  · rw [commit_unbound (by exact hb)]
    rfl
  · refine ⟨_, (commitRun st s).draws, _, commitRun_persisted st s, ?_⟩
    rw [commit_bound (by exact hb), cacheCommit_snd]
    simp only [List.isEmpty_iff]
    rfl

/-- Settles O49: with every key in range nothing fails, so `commitResult` says the rest. -/
theorem commitPersistsOnReferenceStore : Obligations.CommitPersistsOnReferenceStore := by
  intro s st rest h hc hb hr hwf hrange
  obtain ⟨st', n, failed, hpers, hstep⟩ := (commitResult s rest h hc).2 st hb
  have hnone : failed = [] := by
    refine List.eq_nil_iff_forall_not_mem.mpr fun i hi => ?_
    obtain ⟨hkey, hpast⟩ := (hpers.referenceFails hr i).mp hi
    obtain ⟨p, hp, rfl⟩ := List.mem_map.mp ((cacheLookup_isSome_iff _ i).mp hkey)
    exact hpast (hrange p hp)
  subst hnone
  exact ⟨st', n, by simpa using hstep, fun i e he => hpers.written hwf i e he (by simp), hpers.others⟩

end Sys2Proof.Machine
end

section
/-! Proofs of 43_geometry.md: what an insert on an unbound card binds, rejects and refuses, and that an insert on a
bound card is an eject and then an insert. -/

namespace Sys2Proof.Machine

/-! ### Validation of an opened store, one law for each branch -/

section admitStore
variable {s : State} {st : Store}

/-- The sector size is checked first (43 R221, D27). -/
theorem admitStore_of_unsupported (hs : st.geometry.sectorSize ∉ s.params.acceptedSectorSizes) :
    admitStore st s = insertError (.unsupportedSectorSize st.geometry.sectorSize) (s.release st) := if_pos hs

/-- With the size accepted, a number of sectors that is no multiple of 1024 is rejected (43 R221, D27). -/
theorem admitStore_of_not_multiple (hs : st.geometry.sectorSize ∈ s.params.acceptedSectorSizes)
    (hm : st.geometry.totalSectors % 1024 ≠ 0) :
    admitStore st s = insertError (.notMultipleOf1024 st.geometry.totalSectors) (s.release st) := by
  rw [admitStore, if_neg (not_not_intro hs), cSizeUnit, if_pos hm]

/-- Zero sectors pass both checks and are refused (43 R221, D25). -/
theorem admitStore_of_zero (hs : st.geometry.sectorSize ∈ s.params.acceptedSectorSizes)
    (hz : st.geometry.totalSectors = 0) : admitStore st s = s.markRefused := by
  rw [admitStore, if_neg (not_not_intro hs), hz, if_neg (not_not_intro (Nat.zero_mod _)), if_pos rfl]

/-- Every other store is bound (43 R224). -/
theorem admitStore_of_usable (hs : st.geometry.sectorSize ∈ s.params.acceptedSectorSizes)
    (hm : st.geometry.totalSectors % 1024 = 0) (hz : st.geometry.totalSectors ≠ 0) :
    admitStore st s = bindStore st s := by
  rw [admitStore, if_neg (not_not_intro hs), cSizeUnit, if_neg (not_not_intro hm), if_neg hz]

end admitStore

/-! ### An insert on an unbound card -/

/-- The step of an insert on an unbound card (43 R224). -/
theorem step_insert_unbound {s : State} (h : s.CanStep) (hb : s.boundStore = none) {o : OpenResult}
    {rest : List HostCall} (hc : s.hostCalls = .insert o :: rest) :
    step s = .next (insertUnbound o (s.setCalls rest)) := by
  rw [step_call h hc, runCall_insert, insertPath_unbound (by exact hb)]

/-- Where the store opens, that step is its validation. -/
theorem step_insert_opened {s : State} (h : s.CanStep) (hb : s.boundStore = none) {st : Store} {rest : List HostCall}
    (hc : s.hostCalls = .insert (.opened st) :: rest) : step s = .next (admitStore st (s.setCalls rest)) :=
  step_insert_unbound h hb hc

/-- A state with the refused mark has no further step (60 R266). -/
theorem step_refused {s : State} (h : s.refusedMark = true) : step s = .refused .zeroCapacity := if_pos h

/-- Settles O39: validation takes its last branch, with the capacity code of `capacityOf_toNat`. -/
theorem insertBindsAUsableStore : Obligations.InsertBindsAUsableStore := by
  rintro s st rest _ h hb hc rfl hs hm hz
  refine ⟨capacityOf st.geometry.totalSectors, capacityOf_toNat _, ?_⟩
  rw [step_insert_opened h hb hc, admitStore_of_usable (s := s.setCalls rest) hs hm hz]
  rfl

/-- Settles O40: the two failed openings, then validation's two rejecting branches in order. -/
theorem insertRejectsInOrder : Obligations.InsertRejectsInOrder := by
  intro s o rest h hb hc
  refine ⟨?openFailed, ?geometryFailed, ?unsupported, ?notMultiple⟩
  case openFailed =>
    rintro rfl
    rw [step_insert_unbound h hb hc]
    rfl
  case geometryFailed =>
    rintro rfl
    rw [step_insert_unbound h hb hc]
    rfl
  case unsupported =>
    rintro st rfl hs
    rw [step_insert_opened h hb hc, admitStore_of_unsupported (s := s.setCalls rest) hs]
    rfl
  case notMultiple =>
    rintro st rfl hs hm
    rw [step_insert_opened h hb hc, admitStore_of_not_multiple (s := s.setCalls rest) hs hm]
    rfl

/-- Settles O41: validation sets the refused mark and binds nothing, and the mark refuses the next step. -/
theorem zeroSectorsAreRefused : Obligations.ZeroSectorsAreRefused := by
  intro s st rest h hb hc hs hz
  refine ⟨(s.setCalls rest).markRefused, ?_, rfl, hb, step_refused rfl⟩
  rw [step_insert_opened h hb hc, admitStore_of_zero (s := s.setCalls rest) hs hz]

/-! ### An insert on a bound card -/

/-- An eject neither refuses nor destroys the Card (44 R235). -/
@[simp] theorem eject_canStep (s : State) : (eject s).CanStep ↔ s.CanStep := by
  obtain ⟨rel, es, n, he, -⟩ := eject_cases s
  rw [he]
  rfl

/-- An eject reads and writes no pending call (44 R235). -/
theorem eject_setCalls (s : State) (l : List HostCall) : eject (s.setCalls l) = (eject s).setCalls l := by
  cases hb : s.boundStore with
  | none => rw [eject_unbound hb, eject_unbound (by exact hb)]; rfl
  | some st => rw [eject_bound hb, eject_bound (by exact hb), unbind_eq, unbind_eq]; rfl

/-- Settles O42: the implicit eject leaves the unbound card that the explicit one does, with the same insert to run. -/
theorem insertOnABoundCardEjectsFirst : Obligations.InsertOnABoundCardEjectsFirst := by
  intro s st o rest h hb
  have hinsert : step (s.setCalls (.insert o :: rest)) = .next (insertUnbound o (eject (s.setCalls rest))) := by
    rw [step_call (by simpa using h) rfl, runCall_insert, insertPath_bound (by exact hb)]
    rfl
  have heject : step (s.setCalls (.eject :: .insert o :: rest)) = .next ((eject s).setCalls (.insert o :: rest)) := by
    rw [step_call (by simpa using h) rfl, runCall_eject, ← eject_setCalls]
    rfl
  have hthen : step ((eject s).setCalls (.insert o :: rest)) = .next (insertUnbound o (eject (s.setCalls rest))) := by
    rw [step_insert_unbound (by simpa using h) (by simp) rfl, eject_setCalls]
    rfl
  calc step (s.setCalls (.insert o :: rest))
      = step ((eject s).setCalls (.insert o :: rest)) := hinsert.trans hthen.symm
    _ = runSteps 2 (s.setCalls (.eject :: .insert o :: rest)) := by rw [runSteps_succ 1 heject, runSteps_one]

end Sys2Proof.Machine
end

section
/-! Proofs of 44_host_interface.md: what a store answers to a read and to a write, who changes the bound store, the
results of select, read, eject and is_dirty, and that every call has a result. -/

namespace Sys2Proof.Machine

/-! ### A store read -/

/-- The physical bytes of a sector: all 512, or the first 256 (20_memory R44). -/
theorem Store.lt_physicalBytes_iff (st : Store) {j : Nat} (h : j < 512) :
    j < st.physicalBytes ↔ (st.geometry.sectorSize = 256 → j < 256) := by
  by_cases hs : st.geometry.sectorSize = 256 <;> simp [physicalBytes, hs, h]

/-- The reference store answers exactly the reads of its sectors (44 R245). -/
theorem Store.read_isSome_of_reference {st : Store} (h : st.kind = .reference) (n : Nat) (i : SectorIndex) :
    (st.read n i).isSome = decide (i.toNat < st.geometry.totalSectors) := by
  by_cases hi : i.toNat < st.geometry.totalSectors <;> simp [read, h, hi]

/-- Any other store answers a read as its draw says (44 R242, D8). -/
theorem Store.read_isSome_of_drawn {st : Store} (h : st.kind = .drawn) (n : Nat) (i : SectorIndex) :
    (st.read n i).isSome = !Config.storeReadFails n := by
  cases hf : Config.storeReadFails n <;> simp [read, h, hf]

/-- A read that succeeds answers the store's sector (44 R242). -/
theorem Store.eq_sectorAt_of_read {st : Store} {n : Nat} {i : SectorIndex} {e : Sector} (h : st.read n i = some e) :
    e = st.sectorAt n i := by
  unfold read at h
  split at h <;> split at h
  · exact (Option.some.inj h).symm
  · cases h
  · cases h
  · exact (Option.some.inj h).symm

/-- The physical bytes that a successful read answers are the store's data (44 R242). -/
theorem Store.getElem_of_read {st : Store} {n : Nat} {i : SectorIndex} {e : Sector} (h : st.read n i = some e)
    {j : Nat} (hj : j < 512) (hp : j < st.physicalBytes) : e[j] = Memory.readByte st.data (sectorBase i + j) := by
  simp [eq_sectorAt_of_read h, sectorAt, hp]

/-- Which reads succeed is a matter of geometry and kind, not of the data (44 R242, R245). -/
theorem Store.read_isSome_congr {st st' : Store} (hg : st'.geometry = st.geometry) (hk : st'.kind = st.kind) (n : Nat)
    (i : SectorIndex) : (st'.read n i).isSome = (st.read n i).isSome := by
  cases h : st.kind with
  | reference => rw [read_isSome_of_reference h, read_isSome_of_reference (hk.trans h), hg]
  | drawn => rw [read_isSome_of_drawn h, read_isSome_of_drawn (hk.trans h)]

/-- Settles O31: one law for each kind of store, and the bytes of a successful read. -/
theorem storeReadAnswers : Obligations.StoreReadAnswers := by
  intro st n i
  refine ⟨fun hr => ?_, fun hd => ?_, fun e he j hj hp => ?_⟩
  · rw [Store.read_isSome_of_reference hr, decide_eq_true_iff]
    rfl
  · rw [Store.read_isSome_of_drawn hd, Bool.not_eq_true']
  · exact Store.getElem_of_read he hj ((st.lt_physicalBytes_iff hj).mpr hp)

/-! ### A store write -/

/-- Any other store than the reference store takes a write as its draw says (44 R243, D8). -/
theorem Store.write_fst_of_drawn {st : Store} (h : st.kind = .drawn) (n : Nat) (i : SectorIndex) (b : Sector) :
    (st.write n i b).1 = !Config.storeWriteFails n := by
  cases hf : Config.storeWriteFails n <;> simp [write, h, hf]

/-- The reference store is unchanged by a write it refuses (44 R245). -/
theorem Store.write_snd_of_refused {st : Store} (h : st.kind = .reference) {n : Nat} {i : SectorIndex} {b : Sector}
    (hf : (st.write n i b).1 = false) : (st.write n i b).2 = st := by
  rcases st.write_cases n i b with ⟨-, he⟩ | ⟨-, -, he⟩ | ⟨hk, -, -⟩
  · rw [he] at hf; cases hf
  · rw [he]
  · rw [h] at hk; cases hk

/-- Settles O32: which writes succeed, the bytes inside the sector by read after write, and those of every other sector
because no write reaches them. -/
theorem storeWriteAnswers : Obligations.StoreWriteAnswers := by
  intro st n i b
  obtain ⟨hg, hk⟩ := st.write_geometry n i b
  refine ⟨fun hr => ?_, fun hd => ?_, fun hok m e he j hj hp => ?_, fun hr => Store.write_snd_of_refused hr, hg, hk,
    fun k m j hki hj => ⟨?_, Store.read_isSome_congr hg hk m k⟩⟩
  · rw [Store.write_fst_of_reference hr, decide_eq_true_iff]
    rfl
  · rw [Store.write_fst_of_drawn hd, Bool.not_eq_true']
  · have hphys := (st.lt_physicalBytes_iff hj).mpr hp
    rw [Store.getElem_of_read he hj (by simpa using hphys)]
    exact Store.readByte_write_of_success hok hj hphys
  · exact Store.readByte_write_of_not_writeReaches (fun hreach => hki (hreach.eq_index hj).symm) n b

/-! ### Who changes the bound store -/

/-- No command frame writes the bound store (44 R243). -/
theorem exec_instr_boundStore {c : Command} {arg : BitVec 32} {crc : Byte} {s t : State}
    (h : exec (c.instr arg crc) s = .next t) : t.boundStore = s.boundStore := by
  obtain ⟨v, p, es, n, he, -⟩ := dispatch_writes c (s.latchFrame (cmdIndex c) arg)
  rw [exec_instr, completeFrame, he] at h
  cases h
  rfl

@[simp] theorem acceptCommandByte_boundStore (b : Byte) (s : State) :
    (acceptCommandByte b s).boundStore = s.boundStore := by
  rcases acceptCommandByte_cases b s with ⟨-, ht⟩ | ⟨-, -, ht⟩ | ⟨-, -, ht⟩ <;> rw [ht] <;> rfl

/-- Data-phase execution writes the cache, never the store (42 R202, R210). -/
@[simp] theorem executeDataPhase_boundStore (s : State) : (executeDataPhase s).boundStore = s.boundStore := by
  rcases executeDataPhase_cases s with ⟨-, he⟩ | ⟨-, -, he⟩ | ⟨-, st, -, he⟩ <;> rw [he] <;> rfl

/-- No written byte touches the bound store (44 R243; 70 R316). -/
theorem writeByte_boundStore {s t : State} {b : Byte} (h : writeByte b s = .next t) : t.boundStore = s.boundStore := by
  rcases writeByte_cases h with ⟨-, rfl⟩ | ⟨k, -, rfl⟩ | ⟨-, c, -, he⟩ | ⟨-, rfl | rfl⟩ | ⟨-, -, rfl⟩ | ⟨-, rfl⟩ |
    ⟨-, rfl⟩
  · exact acceptCommandByte_boundStore b s
  · rfl
  · exact exec_instr_boundStore he
  · rfl
  · rfl
  · rfl
  · rfl
  · exact executeDataPhase_boundStore s

/-- No read touches the bound store (44 R233). -/
theorem readByte_boundStore {s t : State} (h : readByte s = .next t) : t.boundStore = s.boundStore := by
  rcases readByte_cases s with ⟨_, -, hr⟩ | ⟨-, hr⟩ | ⟨-, -, hr⟩ <;> rw [hr] at h <;> cases h <;> rfl

/-- Settles O38: each call leaves the bound store, or is one of the four named. -/
theorem storeChangesOnlyByHostCalls : Obligations.StoreChangesOnlyByHostCalls := by
  intro s t ht hne
  obtain ⟨-, ⟨-, rfl⟩ | ⟨c, rest, hc, hrun⟩⟩ := step_cases ht
  · exact absurd rfl hne
  refine ⟨c, rest, hc, ?_⟩
  cases c with
  | write b => exact absurd (writeByte_boundStore hrun) hne
  | read => exact absurd (readByte_boundStore hrun) hne
  | select => cases hrun; exact absurd rfl hne
  | isDirty => cases hrun; exact absurd rfl hne
  | commit => exact .inl rfl
  | eject => exact .inr (.inl rfl)
  | destroy => exact .inr (.inr (.inl rfl))
  | insert o => exact .inr (.inr (.inr ⟨o, rfl⟩))

/-! ### Select and is_dirty -/

/-- Settles O43: the step is `select`, whose two updates are the two fields. -/
theorem selectResult : Obligations.SelectResult :=
  fun _ _ h hc => step_call h hc

/-- The dirty flag says that the cache has an entry (42 R207). -/
theorem dirtyFlag_eq_true_iff (s : State) : dirtyFlag s = true ↔ s.cache ≠ [] := by
  simp [dirtyFlag]

/-- Settles O47: the value returned is the dirty flag. -/
theorem isDirtyResult : Obligations.IsDirtyResult :=
  fun s _ h hc => ⟨dirtyFlag s, dirtyFlag_eq_true_iff s, step_call h hc⟩

/-! ### Read -/

/-- A read while bytes remain (44 R233). -/
theorem readByte_of_lt {s : State} (hlt : s.response.cursor < s.response.endPos) (h : s.response.cursor < 516) :
    readByte s = .next ((s.setCursor (s.response.cursor + 1)).ret (.byte s.response.buf[s.response.cursor])) := by
  rcases readByte_cases s with ⟨_, -, hr⟩ | ⟨hge, -⟩ | ⟨hpast, -, -⟩
  · exact hr
  · exact absurd hlt hge
  · exact absurd h hpast

/-- A read with no byte left (44 R233). -/
theorem readByte_of_not_lt {s : State} (h : ¬ s.response.cursor < s.response.endPos) :
    readByte s = .next (s.ret (.byte readFill)) :=
  if_neg h

/-- The step of a read. -/
theorem step_read {s : State} (h : s.CanStep) {rest : List HostCall} (hc : s.hostCalls = .read :: rest) :
    step s = readByte (s.setCalls rest) :=
  step_call h hc

/-- Settles O44: `readByte_of_lt` and `readByte_of_not_lt`. -/
theorem readResult : Obligations.ReadResult := by
  intro s rest h hc
  rw [step_read h hc]
  exact ⟨fun hin hlt => readByte_of_lt (s := s.setCalls rest) hlt hin,
    fun hge => readByte_of_not_lt (s := s.setCalls rest) hge⟩

/-! ### Any number of reads -/

/-- What `n` reads of a response answer: its unread bytes, then `READ_FILL` (44 R233). -/
def Response.drained (p : Response) (n : Nat) : List Byte := (p.unread ++ List.replicate n readFill).take n

/-- The response after `n` reads: the cursor stops at the end (44 R233, 20_memory R46). -/
def Response.advance (p : Response) (n : Nat) : Response := { p with cursor := min (p.cursor + n) p.endPos }

/-- With the cursor inside the end and the end inside the buffer, the first unread byte is the one at the cursor. -/
theorem Response.unread_of_lt {p : Response} (hlt : p.cursor < p.endPos) (h : p.cursor < 516) :
    p.unread = p.buf[p.cursor] :: { p with cursor := p.cursor + 1 }.unread := by
  rw [unread, List.drop_eq_getElem_cons (by simp [hlt, h])]
  simp [unread]

/-- At the end nothing is unread. -/
theorem Response.unread_of_not_lt {p : Response} (h : ¬ p.cursor < p.endPos) : p.unread = [] :=
  List.drop_eq_nil_of_le (by rw [List.length_take]; omega)

/-- The filler past the first `n` bytes is never read. -/
theorem take_append_replicate_succ {α : Type} (l : List α) (a : α) (n : Nat) :
    (l ++ List.replicate (n + 1) a).take n = (l ++ List.replicate n a).take n := by
  rw [List.replicate_succ', ← List.append_assoc, List.take_append_of_le_length (by simp)]

theorem Response.drained_succ_of_lt {p : Response} (hlt : p.cursor < p.endPos) (h : p.cursor < 516) (n : Nat) :
    p.drained (n + 1) = p.buf[p.cursor] :: { p with cursor := p.cursor + 1 }.drained n := by
  rw [drained, unread_of_lt hlt h, List.cons_append, List.take_succ_cons, take_append_replicate_succ, drained]

theorem Response.drained_succ_of_not_lt {p : Response} (h : ¬ p.cursor < p.endPos) (n : Nat) :
    p.drained (n + 1) = readFill :: p.drained n := by
  simp [drained, unread_of_not_lt h, List.replicate_succ]

/-- Inside the bounds no read leaves the response as it is. -/
theorem Response.advance_zero {p : Response} (h : p.cursor ≤ p.endPos) : p.advance 0 = p := by
  rw [advance, Nat.add_zero, Nat.min_eq_left h]

theorem Response.advance_succ_of_lt (p : Response) (n : Nat) :
    { p with cursor := p.cursor + 1 }.advance n = p.advance (n + 1) := by
  simp only [advance, Nat.add_assoc, Nat.add_comm 1 n]

theorem Response.advance_of_not_lt {p : Response} (hc : p.cursor ≤ p.endPos) (h : ¬ p.cursor < p.endPos) (n m : Nat) :
    p.advance n = p.advance m := by
  rw [advance, advance, Nat.min_eq_right (by omega), Nat.min_eq_right (by omega)]

/-- The state after `n` reads. -/
def State.afterReads (s : State) (n : Nat) (rest : List HostCall) : State :=
  { s with
    hostCalls := rest
    results := s.results ++ (s.response.drained n).map .byte
    response := s.response.advance n }

/-- A run of reads from a response inside its bounds (10_state R29): each read takes the next unread byte, or the
filler. -/
theorem runSteps_reads (n : Nat) {s : State} {rest : List HostCall} (h : s.CanStep)
    (hc : s.hostCalls = callsRead n ++ rest) (hcur : s.response.cursor ≤ s.response.endPos)
    (hend : s.response.endPos ≤ 516) : runSteps n s = .next (s.afterReads n rest) := by
  induction n generalizing s with
  | zero =>
    rw [runSteps_zero, State.afterReads, Response.advance_zero hcur, ← show s.hostCalls = rest from hc]
    simp [Response.drained]
  | succ n ih =>
    have hstep := step_read h (rest := callsRead n ++ rest) hc
    by_cases hlt : s.response.cursor < s.response.endPos
    · have hin : s.response.cursor < 516 := by omega
      rw [readByte_of_lt (by exact hlt) (by exact hin)] at hstep
      rw [runSteps_succ n hstep, ih (by exact h) rfl (by exact hlt) (by exact hend)]
      simp only [State.afterReads, Response.drained_succ_of_lt hlt hin, ← Response.advance_succ_of_lt]
      simp [State.setCursor, State.ret, State.setCalls]
    · rw [readByte_of_not_lt (by exact hlt)] at hstep
      rw [runSteps_succ n hstep, ih (by exact h) rfl (by exact hcur) (by exact hend)]
      simp only [State.afterReads, Response.drained_succ_of_not_lt hlt,
        Response.advance_of_not_lt hcur hlt (n + 1) n]
      simp [State.ret, State.setCalls]

/-- Settles O45: `runSteps_reads`, by induction on the number of reads. -/
theorem readsDrainTheResponse : Obligations.ReadsDrainTheResponse :=
  fun n _ _ h hc hcur hend => runSteps_reads n h hc hcur hend

/-! ### Eject -/

/-- Settles O46: the implicit reset alone, or with the store let go by `unbind_eq`, whose commit leaves what
`commitRun_persisted` says. -/
theorem ejectResult : Obligations.EjectResult := by
  intro s rest h hc
  rw [step_call h hc, runCall_eject]
  refine ⟨fun hb => ?_, fun st hb => ?_⟩
  · rw [eject_unbound (by exact hb)]
    rfl
  · rw [eject_bound (by exact hb), unbind_eq]
    cases hp : s.params.ejectPersists with
    | false =>
      refine ⟨st, [], s.draws, ?_, fun _ => ⟨rfl, rfl, rfl⟩, nofun⟩
      simp [hp, hb, select, State.setDecoder, State.clearResponse, State.setCalls, Response.clear]
    | true =>
      refine ⟨_, _, (commitRun st s).draws, ?_, nofun, fun _ => ⟨rfl, rfl, commitRun_persisted st s⟩⟩
      simp only [State.setCalls_params, hp, if_true]
      rfl

/-! ### Every call has a result -/

/-- Under the invariant every written byte has a result: in AwaitingCrc a supported command is latched, and in
AwaitingData the block has room (40 R133). -/
theorem exists_next_of_writeByte {s : State} (h : s.Inv) (b : Byte) : ∃ t, writeByte b s = .next t := by
  cases hd : s.decoderState with
  | awaitingCommand => exact ⟨_, writeByte_command hd b⟩
  | awaitingArg k => exact ⟨_, writeByte_arg hd b⟩
  | awaitingCrc =>
    obtain ⟨c, hc⟩ := Option.isSome_iff_exists.mp (h.commandLatched (by simp [hd]))
    rw [writeByte_crc hd, runFrame_supported hc]
    exact exec_next _ s
  | awaitingDataToken =>
    rw [writeByte_token hd, awaitToken_eq]
    split
    · exact exec_next _ s
    · exact ⟨s, rfl⟩
  | awaitingData => exact ⟨_, (writeByte_data hd b).trans (acceptDataByte_next (h.countWhileReceiving hd) b)⟩
  | awaitingDataCrc1 => exact ⟨_, writeByte_dataCrc1 hd b⟩
  | awaitingDataCrc2 => exact ⟨_, writeByte_dataCrc2 hd b⟩

/-- Under the invariant every read has a result: a cursor below the end is inside the buffer (10_state R29). -/
theorem exists_next_of_readByte {s : State} (h : s.Inv) : ∃ t, readByte s = .next t := by
  rcases readByte_cases s with ⟨_, -, hr⟩ | ⟨-, hr⟩ | ⟨hpast, hlt, -⟩
  · exact ⟨_, hr⟩
  · exact ⟨_, hr⟩
  · exact absurd (hlt.trans_le h.endInBuffer) hpast

/-- Under the invariant every call has a result (44 R246). -/
theorem exists_next_of_runCall {s : State} (h : s.Inv) (c : HostCall) : ∃ t, runCall c s = .next t := by
  cases c with
  | write b => exact exists_next_of_writeByte h b
  | read => exact exists_next_of_readByte h
  | select | insert | eject | isDirty | commit | destroy => exact ⟨_, rfl⟩

/-- Settles O55: with no call pending nothing happens, and with one pending that call has a result. -/
theorem everyCallHasAResult : Obligations.EveryCallHasAResult := by
  intro s h hcan
  cases hc : s.hostCalls with
  | nil => exact ⟨s, step_idle hcan hc⟩
  | cons c rest =>
    rw [step_call hcan hc]
    exact exists_next_of_runCall (h.setCalls_tail hc).2 c

end Sys2Proof.Machine
end

section
/-! Proofs of 60_exceptions.md: what `idle` has an effect on and who writes it, what a step adds to the event log, and
what it does to the fault mark and to the model's named arguments. -/

namespace Sys2Proof.Machine

/-! ### Commands on two Cards that differ in `idle` -/

/-- The state with `idle` and the response put aside. -/
def State.eraseStatus (s : State) : State := { s with idle := false, response := Response.empty }

/-- Two states agree in everything but `idle` and the first byte of the response, where the status byte stands
(10_state R26, 60 R271). -/
structure State.SameButStatus (s t : State) : Prop where
  frame : s.eraseStatus = t.eraseStatus
  endPos : s.response.endPos = t.response.endPos
  cursor : s.response.cursor = t.response.cursor
  unreadTail : s.response.unread.tail = t.response.unread.tail

namespace State.SameButStatus

variable {s t : State}

/-- `idle` itself may differ. -/
theorem setIdle (s : State) (v w : Bool) : (s.setIdle v).SameButStatus (s.setIdle w) := ⟨rfl, rfl, rfl, rfl⟩

/-- The same error reported on both Cards leaves both responses (60 R263). -/
theorem report (h : s.SameButStatus t) (e : Event) : (s.report e).SameButStatus (t.report e) :=
  { h with frame := congrArg (State.report · e) h.frame }

theorem setDecoder (h : s.SameButStatus t) (d : DecoderState) : (s.setDecoder d).SameButStatus (t.setDecoder d) :=
  { h with frame := congrArg (State.setDecoder · d) h.frame }

/-- Two responses that differ in their first byte, whatever stood in the buffers before (10_state R28). -/
theorem respond {a b : Byte} {r : List Byte} (h : s.eraseStatus = t.eraseStatus) (hr : r.length < 516) :
    (s.respond (a :: r)).SameButStatus (t.respond (b :: r)) where
  frame := h
  endPos := rfl
  cursor := rfl
  unreadTail := by simp [Response.load_unread _ (show (_ :: r).length ≤ 516 from hr)]

/-- A data block of 512 bytes, each Card with its own status byte (30_encoding R73). -/
theorem encDataBlock {p : List Byte} (h : s.eraseStatus = t.eraseStatus) (hp : p.length = 512) :
    (encDataBlock p s).SameButStatus (encDataBlock p t) :=
  respond h (by simp [hp])

end State.SameButStatus

/-- READ_SINGLE_BLOCK takes its sector from the cache or the store, which `idle` does not enter (41 R157). -/
theorem readBlockEffect_sameButStatus (st : Store) (s : State) (v w : Bool) :
    (readBlockEffect st (s.setIdle v)).SameButStatus (readBlockEffect st (s.setIdle w)) := by
  cases hc : cacheLookup s.cache (arg32 s) with
  | some e =>
    rw [readBlockEffect_hit (s := s.setIdle v) hc, readBlockEffect_hit (s := s.setIdle w) hc]
    exact .encDataBlock rfl (by simp)
  | none =>
    cases hr : st.read s.draws (arg32 s) with
    | some e =>
      rw [readBlockEffect_miss (s := s.setIdle v) hc hr, readBlockEffect_miss (s := s.setIdle w) hc hr]
      exact .encDataBlock rfl (by simp)
    | none =>
      rw [readBlockEffect_failed (s := s.setIdle v) hc hr, readBlockEffect_failed (s := s.setIdle w) hc hr]
      exact (State.SameButStatus.setIdle (s.setDraws (s.draws + 1)) v w).report _

/-- No command looks at `idle`, but for the status byte of its response (60 R271). -/
theorem commandEffect_sameButStatus (c : Command) (st : Store) (s : State) (v w : Bool) :
    (commandEffect c st (s.setIdle v)).SameButStatus (commandEffect c st (s.setIdle w)) := by
  cases c with
  | readSingleBlock => exact readBlockEffect_sameButStatus st s v w
  | sendCsd => exact .encDataBlock rfl (registerPayload_length (by simp [csdRegister]))
  | sendCid => exact .encDataBlock rfl (registerPayload_length (by simp [cidRegister]))
  | sendIfCond | readOcr => exact .respond rfl (by simp [bytes32])
  | goIdleState | writeBlock | appSendOpCond | appCmd => exact .respond rfl (by simp)

/-- A whole frame ends alike on an idle and on a ready Card, bound or not (41 R150). -/
theorem exec_instr_sameButStatus {c : Command} {arg : BitVec 32} {crc : Byte} {s t u : State} {v w : Bool}
    (ht : exec (c.instr arg crc) (s.setIdle v) = .next t) (hu : exec (c.instr arg crc) (s.setIdle w) = .next u) :
    t.SameButStatus u := by
  cases hb : s.boundStore with
  | none =>
    rw [exec_instr_unbound (by exact hb)] at ht hu
    cases ht
    cases hu
    exact (State.SameButStatus.setIdle (s.latchFrame (cmdIndex c) arg) v w).setDecoder _
  | some st =>
    rw [exec_instr_bound (by exact hb)] at ht hu
    cases ht
    cases hu
    exact (commandEffect_sameButStatus c st (s.latchFrame (cmdIndex c) arg) v w).setDecoder _

/-- Settles O26: each response starts with the status byte, and nothing after it depends on `idle`. -/
theorem commandsIgnoreIdle : Obligations.CommandsIgnoreIdle := by
  intro c arg crc s t u ht hu
  obtain ⟨hframe, hend, hcur, htail⟩ := exec_instr_sameButStatus (s := s) ht hu
  exact ⟨congrArg (fun x : State => { x with idle := s.idle, response := s.response }) hframe, hend, hcur, htail⟩

/-! ### Who writes `idle` -/

/-- GO_IDLE_STATE sets `idle`, APP_SEND_OP_COND clears it, every other command leaves it (41 R153, R159). -/
theorem commandEffect_idle (c : Command) (st : Store) (s : State) : (commandEffect c st s).idle = s.idle ∨
    (c = .goIdleState ∧ (commandEffect c st s).idle = true) ∨
    (c = .appSendOpCond ∧ (commandEffect c st s).idle = false) := by
  cases c with
  | goIdleState => exact .inr (.inl ⟨rfl, rfl⟩)
  | appSendOpCond => exact .inr (.inr ⟨rfl, rfl⟩)
  | readSingleBlock =>
    obtain ⟨n, ⟨p, he⟩ | he⟩ := readBlockEffect_cases st s <;> rw [commandEffect, he] <;> exact .inl rfl
  | sendIfCond | sendCsd | sendCid | writeBlock | appCmd | readOcr => exact .inl rfl

/-- A command frame changes `idle` on a bound card only, and only by those two (41 R150, 60 R271). -/
theorem exec_instr_idle {c : Command} {arg : BitVec 32} {crc : Byte} {s t : State}
    (h : exec (c.instr arg crc) s = .next t) : t.idle = s.idle ∨ (s.boundStore.isSome = true ∧
      ((c = .goIdleState ∧ t.idle = true) ∨ (c = .appSendOpCond ∧ t.idle = false))) := by
  cases hb : s.boundStore with
  | none =>
    rw [exec_instr_unbound hb] at h
    cases h
    exact .inl rfl
  | some st =>
    rw [exec_instr_bound hb] at h
    cases h
    exact (commandEffect_idle c st (s.latchFrame (cmdIndex c) arg)).imp_right fun hset => ⟨rfl, hset⟩

@[simp] theorem acceptCommandByte_idle (b : Byte) (s : State) : (acceptCommandByte b s).idle = s.idle := by
  rcases acceptCommandByte_cases b s with ⟨-, ht⟩ | ⟨-, -, ht⟩ | ⟨-, -, ht⟩ <;> rw [ht] <;> rfl

@[simp] theorem executeDataPhase_idle (s : State) : (executeDataPhase s).idle = s.idle := by
  rcases executeDataPhase_cases s with ⟨-, he⟩ | ⟨-, -, he⟩ | ⟨-, st, -, he⟩ <;> rw [he] <;> rfl

/-- A written byte changes `idle` only at the end of a frame of the two commands, on a bound card (60 R271). -/
theorem writeByte_idle {s t : State} {b : Byte} (h : writeByte b s = .next t) : t.idle = s.idle ∨
    (s.boundStore.isSome = true ∧ s.decoderState = .awaitingCrc ∧
      ((s.currentCommand = 0 ∧ t.idle = true) ∨ (s.currentCommand = 41 ∧ t.idle = false))) := by
  rcases writeByte_cases h with ⟨-, rfl⟩ | ⟨k, -, rfl⟩ | ⟨hd, c, hc, he⟩ | ⟨-, rfl | rfl⟩ | ⟨-, -, rfl⟩ | ⟨-, rfl⟩ |
    ⟨-, rfl⟩
  · exact .inl (acceptCommandByte_idle b s)
  · exact .inl rfl
  · have hindex := cmdIndex_of_commandOf hc
    rcases exec_instr_idle he with hkeep | ⟨hb, ⟨rfl, hset⟩ | ⟨rfl, hclear⟩⟩
    · exact .inl hkeep
    · exact .inr ⟨hb, hd, .inl ⟨hindex.symm, hset⟩⟩
    · exact .inr ⟨hb, hd, .inr ⟨hindex.symm, hclear⟩⟩
  · exact .inl rfl
  · exact .inl rfl
  · exact .inl rfl
  · exact .inl rfl
  · exact .inl (executeDataPhase_idle s)

/-- A read leaves `idle` (44 R233). -/
theorem readByte_idle {s t : State} (h : readByte s = .next t) : t.idle = s.idle := by
  rcases readByte_cases s with ⟨_, -, hr⟩ | ⟨-, hr⟩ | ⟨-, -, hr⟩ <;> rw [hr] at h <;> cases h <;> rfl

/-- An eject leaves `idle` (70 R301). -/
@[simp] theorem eject_idle (s : State) : (eject s).idle = s.idle := by
  obtain ⟨rel, es, n, he, -⟩ := eject_cases s
  rw [he]

@[simp] theorem insertUnbound_idle (o : OpenResult) (s : State) : (insertUnbound o s).idle = s.idle := by
  rcases insertUnbound_cases o s with ⟨d, rel, -, ht⟩ | ⟨st, -, ht⟩ | ⟨st, -, -, -, -, ht⟩ <;> rw [ht] <;> rfl

/-- An insert leaves `idle`, bound or not (70 R301). -/
@[simp] theorem insertPath_idle (o : OpenResult) (s : State) : (insertPath o s).idle = s.idle := by
  cases hb : s.boundStore with
  | none => rw [insertPath_unbound hb, insertUnbound_idle]
  | some st => rw [insertPath_bound hb, insertUnbound_idle, eject_idle]

/-- A commit leaves `idle` (44 R237). -/
@[simp] theorem commit_idle (s : State) : (commit s).idle = s.idle := by
  cases hb : s.boundStore with
  | none => rw [commit_unbound hb]; rfl
  | some st => rw [commit_bound hb]; rfl

/-- Settles O27: every call but a written byte leaves `idle`, and `writeByte_idle` names the two that change it. -/
theorem idleChangesOnlyByItsCommands : Obligations.IdleChangesOnlyByItsCommands := by
  intro s t ht hne
  obtain ⟨-, ⟨-, rfl⟩ | ⟨c, rest, hc, hrun⟩⟩ := step_cases ht
  · exact absurd rfl hne
  cases c with
  | write b =>
    obtain ⟨hb, hd, hset⟩ := (writeByte_idle hrun).resolve_left hne
    exact ⟨hb, hd, ⟨b, rest, hc⟩, hset⟩
  | read => exact absurd (readByte_idle hrun) hne
  | insert o => cases hrun; exact absurd (insertPath_idle o _) hne
  | eject | destroy => cases hrun; exact absurd (eject_idle _) hne
  | commit => cases hrun; exact absurd (commit_idle _) hne
  | select | isDirty => cases hrun; exact absurd rfl hne

/-! ### What an operation logs

An operation that only logs appends records and leaves the fault mark. `State.Records` also allows the one way to set
that mark. -/

/-- `t` is reached from `s` with the records `es` appended to the event log, and with the same fault mark and named
arguments (60 R260). -/
structure State.Logs (s t : State) (es : List Event) : Prop where
  events : t.events = s.events ++ es
  faultMark : t.faultMark = s.faultMark
  params : t.params = s.params

/-- `t` is reached from `s` with the records `es` appended to the event log and the same named arguments; the fault
mark stays, or is set together with a LogicError as the only record (60 R264, R265). -/
structure State.Records (s t : State) (es : List Event) : Prop where
  events : t.events = s.events ++ es
  faultMark : t.faultMark = s.faultMark ∨ (t.faultMark = true ∧ es = [.logicError s.currentCommand])
  params : t.params = s.params

/-- Nothing is logged. -/
theorem State.Logs.nil {s t : State} (he : t.events = s.events) (hf : t.faultMark = s.faultMark)
    (hp : t.params = s.params) : s.Logs t [] :=
  ⟨by rw [he, List.append_nil], hf, hp⟩

/-- Two operations one after the other log one after the other. -/
theorem State.Logs.trans {s t u : State} {es es' : List Event} (h : s.Logs t es) (h' : t.Logs u es') :
    s.Logs u (es ++ es') :=
  ⟨by rw [h'.events, h.events, List.append_assoc], h'.faultMark.trans h.faultMark, h'.params.trans h.params⟩

theorem State.Logs.records {s t : State} {es : List Event} (h : s.Logs t es) : s.Records t es :=
  ⟨h.events, .inl h.faultMark, h.params⟩

theorem State.Records.nil {s t : State} (he : t.events = s.events) (hf : t.faultMark = s.faultMark)
    (hp : t.params = s.params) : s.Records t [] :=
  (State.Logs.nil he hf hp).records

/-! ### The bytes the host writes -/

/-- A command byte logs at most a ProtocolError (60 R261). -/
theorem acceptCommandByte_logs (b : Byte) (s : State) : ∃ es, es.length ≤ 1 ∧ s.Logs (acceptCommandByte b s) es := by
  rcases acceptCommandByte_cases b s with ⟨-, ht⟩ | ⟨-, -, ht⟩ | ⟨-, -, ht⟩ <;> rw [ht]
  · exact ⟨[], Nat.zero_le _, .nil rfl rfl rfl⟩
  · exact ⟨[_], Nat.le_refl _, rfl, rfl, rfl⟩
  · exact ⟨[], Nat.zero_le _, .nil rfl rfl rfl⟩

/-- A command frame logs at most an IoError (60 R263). -/
theorem exec_instr_logs {c : Command} {arg : BitVec 32} {crc : Byte} {s t : State}
    (h : exec (c.instr arg crc) s = .next t) : ∃ es, es.length ≤ 1 ∧ s.Logs t es := by
  obtain ⟨v, p, es, n, he, -, -, hes⟩ := dispatch_writes c (s.latchFrame (cmdIndex c) arg)
  rw [exec_instr, completeFrame, he] at h
  cases h
  rcases hes with rfl | ⟨rfl, -⟩
  · exact ⟨[], Nat.zero_le _, .nil rfl rfl rfl⟩
  · exact ⟨[_], Nat.le_refl _, rfl, rfl, rfl⟩

/-- Data-phase execution logs a LogicError and sets the fault mark, or logs nothing (42 R210, 60 R264). -/
theorem executeDataPhase_records (s : State) : ∃ es, es.length ≤ 1 ∧ s.Records (executeDataPhase s) es := by
  rcases executeDataPhase_cases s with ⟨-, he⟩ | ⟨-, -, he⟩ | ⟨-, st, -, he⟩ <;> rw [he]
  · exact ⟨[_], Nat.le_refl _, rfl, .inr ⟨rfl, rfl⟩, rfl⟩
  · exact ⟨[], Nat.zero_le _, .nil rfl rfl rfl⟩
  · exact ⟨[], Nat.zero_le _, .nil rfl rfl rfl⟩

/-- A written byte logs at most one record (60 R268). -/
theorem writeByte_records {s t : State} {b : Byte} (h : writeByte b s = .next t) :
    ∃ es, es.length ≤ 1 ∧ s.Records t es := by
  rcases writeByte_cases h with ⟨-, rfl⟩ | ⟨k, -, rfl⟩ | ⟨-, c, -, he⟩ | ⟨-, rfl | rfl⟩ | ⟨-, -, rfl⟩ | ⟨-, rfl⟩ |
    ⟨-, rfl⟩
  · obtain ⟨es, hlen, hlogs⟩ := acceptCommandByte_logs b s
    exact ⟨es, hlen, hlogs.records⟩
  · exact ⟨[], Nat.zero_le _, .nil rfl rfl rfl⟩
  · obtain ⟨es, hlen, hlogs⟩ := exec_instr_logs he
    exact ⟨es, hlen, hlogs.records⟩
  · exact ⟨[], Nat.zero_le _, .nil rfl rfl rfl⟩
  · exact ⟨[], Nat.zero_le _, .nil rfl rfl rfl⟩
  · exact ⟨[], Nat.zero_le _, .nil rfl rfl rfl⟩
  · exact ⟨[], Nat.zero_le _, .nil rfl rfl rfl⟩
  · obtain ⟨es, hlen, hevents, hfault, hparams⟩ := executeDataPhase_records s
    exact ⟨es, hlen, hevents, hfault, hparams⟩

/-! ### The other calls -/

/-- A read logs nothing (44 R233). -/
theorem readByte_logs {s t : State} (h : readByte s = .next t) : s.Logs t [] := by
  rcases readByte_cases s with ⟨_, -, hr⟩ | ⟨-, hr⟩ | ⟨-, -, hr⟩ <;> rw [hr] at h <;> cases h <;> exact .nil rfl rfl rfl

/-- A commit logs the writes that failed, however many (42 R208). -/
theorem commit_logs (s : State) : ∃ es, s.Logs (commit s) es := by
  cases hb : s.boundStore with
  | none => rw [commit_unbound hb]; exact ⟨[], .nil rfl rfl rfl⟩
  | some st => rw [commit_bound hb, cacheCommit_snd]; exact ⟨_, rfl, rfl, rfl⟩

/-- An eject logs the writes that failed where it persists, and else nothing (44 R235). -/
theorem eject_logs (s : State) : ∃ es, (s.params.ejectPersists = false → es = []) ∧ s.Logs (eject s) es := by
  obtain ⟨rel, es, n, he, hdiscards, -⟩ := eject_cases s
  rw [he]
  exact ⟨es, fun hp => (hdiscards hp).1, rfl, rfl, rfl⟩

/-- On an unbound card an insert logs at most a MediaError (60 R262). -/
theorem insertUnbound_logs (o : OpenResult) (s : State) : ∃ es, es.length ≤ 1 ∧ s.Logs (insertUnbound o s) es := by
  rcases insertUnbound_cases o s with ⟨d, rel, -, ht⟩ | ⟨st, -, ht⟩ | ⟨st, -, -, -, -, ht⟩ <;> rw [ht]
  · exact ⟨[_], Nat.le_refl _, rfl, rfl, rfl⟩
  · exact ⟨[], Nat.zero_le _, .nil rfl rfl rfl⟩
  · exact ⟨[], Nat.zero_le _, .nil rfl rfl rfl⟩

/-- On a bound card an insert logs what its eject logs, and then at most a MediaError (43 R224, D23). -/
theorem insertPath_logs (o : OpenResult) (s : State) :
    ∃ es, (s.params.ejectPersists = false → es.length ≤ 1) ∧ s.Logs (insertPath o s) es := by
  cases hb : s.boundStore with
  | none =>
    rw [insertPath_unbound hb]
    obtain ⟨es, hlen, hlogs⟩ := insertUnbound_logs o s
    exact ⟨es, fun _ => hlen, hlogs⟩
  | some st =>
    rw [insertPath_bound hb]
    obtain ⟨es, hdiscards, hejected⟩ := eject_logs s
    obtain ⟨es', hlen, hinserted⟩ := insertUnbound_logs o (eject s)
    exact ⟨es ++ es', fun hp => by rw [hdiscards hp]; exact hlen, hejected.trans hinserted⟩

/-! ### Every call, every step -/

/-- The calls that may log more than one record: a commit, and under EJECT_PERSISTS an eject and the calls that contain
one (60 R268). -/
def HostCall.MayLogMany (p : Params) (c : HostCall) : Prop :=
  c = .commit ∨ (p.ejectPersists = true ∧ (c = .eject ∨ c = .destroy ∨ ∃ o, c = .insert o))

/-- A call with an eject in it logs at most one record where the policy discards. -/
theorem HostCall.one_or_mayLogMany {p : Params} {c : HostCall} {es : List Event}
    (hc : c = .eject ∨ c = .destroy ∨ ∃ o, c = .insert o) (hone : p.ejectPersists = false → es.length ≤ 1) :
    es.length ≤ 1 ∨ c.MayLogMany p := by
  cases hp : p.ejectPersists with
  | false => exact .inl (hone hp)
  | true => exact .inr (.inr ⟨hp, hc⟩)

/-- Everything a call does to the event log, the fault mark and the named arguments. -/
theorem runCall_records {s t : State} {c : HostCall} (h : runCall c s = .next t) :
    ∃ es, s.Records t es ∧ (es.length ≤ 1 ∨ c.MayLogMany s.params) := by
  cases c with
  | write b =>
    obtain ⟨es, hlen, hrec⟩ := writeByte_records h
    exact ⟨es, hrec, .inl hlen⟩
  | read => exact ⟨[], (readByte_logs h).records, .inl (Nat.zero_le _)⟩
  | select | isDirty => cases h; exact ⟨[], .nil rfl rfl rfl, .inl (Nat.zero_le _)⟩
  | commit =>
    cases h
    obtain ⟨es, hlogs⟩ := commit_logs s
    exact ⟨es, hlogs.records, .inr (.inl rfl)⟩
  | insert o =>
    cases h
    obtain ⟨es, hone, hlogs⟩ := insertPath_logs o s
    exact ⟨es, hlogs.records, HostCall.one_or_mayLogMany (.inr (.inr ⟨o, rfl⟩)) hone⟩
  | eject =>
    cases h
    obtain ⟨es, hnone, hlogs⟩ := eject_logs s
    exact ⟨es, hlogs.records, HostCall.one_or_mayLogMany (.inl rfl) fun hp => by simp [hnone hp]⟩
  | destroy =>
    cases h
    obtain ⟨es, hnone, hevents, hfault, hparams⟩ := eject_logs s
    exact ⟨es, ⟨hevents, .inl hfault, hparams⟩,
      HostCall.one_or_mayLogMany (.inr (.inl rfl)) fun hp => by simp [hnone hp]⟩

/-- Everything a step does to the event log, the fault mark and the named arguments. -/
theorem step_records {s t : State} (h : step s = .next t) : ∃ es, s.Records t es ∧
    (es.length ≤ 1 ∨ ∃ c rest, s.hostCalls = c :: rest ∧ c.MayLogMany s.params) := by
  obtain ⟨-, ⟨-, rfl⟩ | ⟨c, rest, hc, hrun⟩⟩ := step_cases h
  · exact ⟨[], .nil rfl rfl rfl, .inl (Nat.zero_le _)⟩
  · obtain ⟨es, ⟨hevents, hfault, hparams⟩, hlen⟩ := runCall_records hrun
    exact ⟨es, ⟨hevents, hfault, hparams⟩, hlen.imp_right fun hmany => ⟨c, rest, hc, hmany⟩⟩

/-- Settles O56: `step_records` names the records appended. -/
theorem eventLogIsAppendOnly : Obligations.EventLogIsAppendOnly := by
  intro s t ht
  obtain ⟨es, hrec, -⟩ := step_records ht
  exact ⟨es, hrec.events⟩

/-- Settles O57: a step appends at most one record, or its call is one of those in `HostCall.MayLogMany`. -/
theorem atMostOneErrorPerCall : Obligations.AtMostOneErrorPerCall := by
  intro s t ht
  obtain ⟨es, hrec, hlen⟩ := step_records ht
  rw [hrec.events, List.length_append]
  exact hlen.imp_left fun hone => Nat.add_le_add_left hone _

/-- Settles O58: the refused mark is looked at before anything else, and `State.Records` has the one way to set the
fault mark. -/
theorem marksAreStickyAndParamsConstant : Obligations.MarksAreStickyAndParamsConstant := by
  refine fun s => ⟨step_refused, fun t ht => ?_⟩
  obtain ⟨es, ⟨hevents, hfault, hparams⟩, -⟩ := step_records ht
  rcases hfault with hkept | ⟨hset, rfl⟩
  · exact ⟨hkept.trans, hparams, fun hclear hset => by rw [hkept, hclear] at hset; cases hset⟩
  · exact ⟨fun _ => hset, hparams, fun _ _ => hevents⟩

end Sys2Proof.Machine
end

section
/-! Proofs of 70_reset_and_hazards.md: destruction, as a final eject. -/

namespace Sys2Proof.Machine

/-- A destroyed Card has no further step (70 R301). -/
theorem step_destroyed {s : State} (h : s.refusedMark = false) (hd : s.destroyed = true) :
    step s = .refused .cardDestroyed := by
  simp [step, h, hd]

/-- Settles O51: `destroy` is `eject` with the mark set, and an eject leaves the refused mark clear, so the next step sees
the destroyed mark. -/
theorem destructionIsAFinalEject : Obligations.DestructionIsAFinalEject := by
  intro s rest h hc
  obtain ⟨hrefused, -⟩ : (eject (s.setCalls rest)).CanStep := (eject_canStep _).2 h
  refine ⟨eject (s.setCalls rest), ?ejects, ?destroys, step_destroyed hrefused rfl⟩
  case ejects => exact step_call (s := s.setCalls (.eject :: rest)) h rfl
  case destroys => exact step_call h hc

end Sys2Proof.Machine
end
